-- ==== Sys2Proof/Word.lean ====
section
/-! DEFINITION. The words of the block: bytes, the 64-bit pattern of a binary64 value, byte sequences and text
(spec/00_scope.md R6). -/

namespace Sys2Proof

/-- A byte: an unsigned integer 0 to 255 (spec/00_scope.md R6). -/
abbrev Byte := BitVec 8

/-- The bit pattern of an IEEE-754 binary64 value; `f64bits` and `f64val` are bit-exact transports, so a float of the
spec is its pattern here (spec/00_scope.md R6, spec/40_codec.md R87). -/
abbrev Word64 := BitVec 64

/-- A byte sequence, index 0 first, which is also the order of transmission (spec/00_scope.md R6). -/
abbrev Bytes := List Byte

/-- A character string (the version string of spec/42_firmware_upload.md R150, the host of spec/10_state.md R19). -/
abbrev Text := List Char

end Sys2Proof
end

