-- ==== Sys2Proof/Config.lean ====
section
/-! DEFINITION. What the spec leaves open: the answers of the environment beyond those a state lists
(spec/20_memory.md R38) and the parameter `att_neg_zero_ok` (spec/92_eei_decisions.md D11). All of it is opaque: nothing
can be proved of a value of it. -/

namespace Sys2Proof

/-- The outcome of a `Connect` or a `Send`: two outcomes only (spec/20_memory.md R33, decision D18). -/
inductive Reply where
  | ok
  | fail
  deriving DecidableEq, Repr, Inhabited

/-- The outcome of a `Recv`: a byte sequence, possibly empty, or a failure, timeout included (spec/20_memory.md R34). -/
inductive RecvAnswer where
  | ok (r : Bytes)
  | fail
  deriving DecidableEq, Repr, Inhabited

/-- Free value, log 3: the outcome of a `Connect` whose answer no state lists (spec/20_memory.md R38). -/
opaque Config.freeConnect : Nat → Reply

/-- Free value, log 3: the outcome of a `Send` whose answer no state lists (spec/20_memory.md R38). -/
opaque Config.freeSend : Nat → Reply

/-- Free value, log 3: what a `Recv` meets when no state lists its answer (spec/20_memory.md R38). A sequence longer
than the receive takes is cut by the receive itself. -/
opaque Config.freeRecv : Nat → RecvAnswer

/-- The parameter `att_neg_zero_ok`, which the spec leaves OPEN: whether `SET_ATT` accepts negative zero
(spec/41_transactions.md R105, decision D11; log 5). -/
opaque Config.attNegZeroOk : Bool

end Sys2Proof
end

