-- ==== Sys2Proof/Syntax.lean ====
section
/-! DEFINITION. The instructions of the block, one constructor per row of spec/opcode_table.json, and the commands a
host can present (spec/00_scope.md R8, spec/30_encoding.md R62, R65). -/

namespace Sys2Proof

/-- The states of the firmware-upload sequencer (spec/10_state.md R14, spec/42_firmware_upload.md R151). -/
inductive FwState where
  | idle
  | versionSent
  | uploading
  | finalized
  | aborted
  deriving DecidableEq, Repr, Inhabited

/-- The response formats (spec/30_encoding.md R55). -/
inductive RspFormat where
  | f64
  | u8
  | b7
  | b17
  | ack
  deriving DecidableEq, Repr

/-- Why the decoder reads no instruction from a byte sequence (spec/30_encoding.md R50 to R53, R63;
spec/41_transactions.md R134). -/
inductive Reject where
  /-- Fewer than the four header bytes (R50). Safe: the frame is not a request of the block. -/
  | shortHeader
  /-- Byte 0 is neither 0x10 nor 0x20 (R63). Safe. -/
  | badClass (cls : Byte)
  /-- Byte 1 is not 0x00 (R63). Safe. -/
  | badHeader1 (b : Byte)
  /-- Byte 2 is not the table's length byte for the payload that follows (R53, R63). Safe. -/
  | badLength (len : Byte)
  /-- A read of a register that is not readable (R13, R63). Safe. -/
  | notReadable (reg : Byte)
  /-- A write of a register that is not writable (R13, R63). Safe. -/
  | notWritable (reg : Byte)
  /-- A register id outside the catalog (R31, R63). Safe. -/
  | notInCatalog (reg : Byte)
  /-- A payload of the wrong length for its register, or not the fixed payload of its row (R62, R63). Safe. -/
  | badPayload (reg : Byte)
  /-- More bytes than one receive can return (R54). Safe. -/
  | tooLong
  deriving DecidableEq, Repr

/-- One constructor per row of spec/opcode_table.json. A float operand is its binary64 pattern. -/
inductive Instr where
  /-- `GET_ATT`, R104. -/
  | getAtt
  /-- `GET_TEMP_AC`, R106. -/
  | getTempAc
  /-- `GET_TEMP_BD`, R107. -/
  | getTempBd
  /-- `GET_SP_AC`, R108. -/
  | getSpAc
  /-- `GET_SP_BD`, R110. -/
  | getSpBd
  /-- `GET_TCS`, R112. -/
  | getTcs
  /-- `GET_HEAT_AC`, R114. -/
  | getHeatAc
  /-- `GET_HEAT_BD`, R116. -/
  | getHeatBd
  /-- `GET_VERSION`, R119. -/
  | getVersion
  /-- `GET_PID_AC_KC`, R120. -/
  | getPidAcKc
  /-- `GET_PID_AC_TI`, R122. -/
  | getPidAcTi
  /-- `GET_PID_AC_TD`, R124. -/
  | getPidAcTd
  /-- `GET_PID_BD_KC`, R126. -/
  | getPidBdKc
  /-- `GET_PID_BD_TI`, R128. -/
  | getPidBdTi
  /-- `GET_PID_BD_TD`, R130. -/
  | getPidBdTd
  /-- `GET_MAC`, R133. -/
  | getMac
  /-- `SET_ATT`, R105. -/
  | setAtt (v : Word64)
  /-- `SET_SP_AC`, R109. -/
  | setSpAc (v : Word64)
  /-- `SET_SP_BD`, R111. -/
  | setSpBd (v : Word64)
  /-- `SET_TCS`, R113: the operand is any integer (decision D13). -/
  | setTcs (v : Int)
  /-- `SET_HEAT_AC`, R115. -/
  | setHeatAc (v : Word64)
  /-- `SET_HEAT_BD`, R117. -/
  | setHeatBd (v : Word64)
  /-- `RESET`, R118. -/
  | reset
  /-- `FW_BEGIN`, R154. -/
  | fwBegin
  /-- `FW_END`, R157. -/
  | fwEnd
  /-- `FW_VERSION`, R153. -/
  | fwVersion (major minor patch : Byte)
  /-- `FW_CHUNK`, R155: the operand is the chunk before padding. -/
  | fwChunk (c : Bytes)
  /-- `SET_PID_AC_KC`, R121. -/
  | setPidAcKc (v : Word64)
  /-- `SET_PID_AC_TI`, R123. -/
  | setPidAcTi (v : Word64)
  /-- `SET_PID_AC_TD`, R125. -/
  | setPidAcTd (v : Word64)
  /-- `SET_PID_BD_KC`, R127. -/
  | setPidBdKc (v : Word64)
  /-- `SET_PID_BD_TI`, R129. -/
  | setPidBdTi (v : Word64)
  /-- `SET_PID_BD_TD`, R131. -/
  | setPidBdTd (v : Word64)
  /-- `SET_IP`, R132: the operand is the address as bytes, before padding. -/
  | setIp (a : Bytes)
  /-- `RSP_F64`, R82: decode the response `r` as `DEC_FLOAT` does. -/
  | rspF64 (r : Bytes)
  /-- `RSP_U8`, R83: decode the response `r` as `DEC_BYTE` does. -/
  | rspU8 (r : Bytes)
  /-- `RSP_B7`, R84: decode the response `r` as `DEC_BYTES` does with length 7. -/
  | rspB7 (r : Bytes)
  /-- `RSP_B17`, R84: decode the response `r` as `DEC_BYTES` does with length 17. -/
  | rspB17 (r : Bytes)
  /-- `ACK`, R103: drain and ignore the response `r`. -/
  | ack (r : Bytes)
  deriving DecidableEq, Repr

/-- What a host can present to the block (spec/00_scope.md R8, spec/30_encoding.md R65). The two forms in which a row of
the opcode table is presented, with its operands or as the frame that encodes it, are this model's reading of the open
command interface (log 2). -/
inductive Command where
  /-- A row of the opcode table with its operands. -/
  | call (i : Instr)
  /-- The generic entry of R134: a command given as the request frame that encodes it (R8). -/
  | frame (b : Bytes)
  /-- `ENC_READ(reg)`, spec/40_codec.md R80. -/
  | encRead (reg : Byte)
  /-- `ENC_WRITE(reg, payload)`, R81. -/
  | encWrite (reg : Byte) (payload : Bytes)
  /-- `PACK_F64(v)`, R85; as a command of a host a DESIGN CHOICE (log 36). -/
  | packF64 (v : Word64)
  /-- `UNPACK_F64(b)`, R85; as a command of a host a DESIGN CHOICE (log 36). -/
  | unpackF64 (b : Bytes)
  /-- `DEC_BYTES(r, n)`, R84, for any `n` (the rows `RSP_B7` and `RSP_B17` are n = 7 and n = 17). -/
  | decBytes (r : Bytes) (n : Nat)
  /-- `PARSE_VERSION(s)`, spec/42_firmware_upload.md R152, as a command of its own (log 36). -/
  | parseVersion (version : Text)
  /-- `FW_UPLOAD(version, image)`, R150. -/
  | fwUpload (version : Text) (image : Bytes)
  /-- `OPEN(host, port)`, spec/70_reset_and_hazards.md R210. -/
  | openBlock (host : Text) (port : Nat)
  /-- `CLOSE()`, R212. -/
  | closeBlock
  deriving DecidableEq, Repr

end Sys2Proof
end

