-- ==== Sys2Proof/Machine/Params.lean ====
section
/-! DEFINITION. The constants of the block (spec/00_scope.md R4) and the length byte of a write request
(spec/30_encoding.md R53). -/

namespace Sys2Proof.Machine

/-- `CLS_READ`: byte 0 of every read request (R4). -/
abbrev clsRead : Byte := 0x10
/-- `CLS_WRITE`: byte 0 of every write request (R4). -/
abbrev clsWrite : Byte := 0x20
/-- `HDR1`: byte 1 of every request (R4). -/
abbrev hdr1 : Byte := 0x00
/-- `LEN_READ`: byte 2 of every read request (R4). -/
abbrev lenRead : Byte := 0x01
/-- `RSP_PREFIX`: bytes of opaque prefix on every response (R4). -/
abbrev rspPrefix : Nat := 3
/-- `RX_MAX`: the most bytes one receive returns (R4). -/
abbrev rxLimit : Nat := 1024
/-- `TIMEOUT_S`: seconds each transport operation may take (R4). -/
abbrev timeoutSeconds : Nat := 5
/-- `CHUNK`: bytes of firmware image per chunk frame (R4). -/
abbrev chunkSize : Nat := 128
/-- `PAD_FW`: fill byte of a short last chunk (R4). -/
abbrev padFw : Byte := 0xFF
/-- `PAD_VER`: fill byte of the version frame (R4). -/
abbrev padVer : Byte := 0x00
/-- `PAD_IP`: fill byte of the set-IP payload (R4). -/
abbrev padIp : Byte := 0x00
/-- `IP_LEN`: bytes of the set-IP payload (R4). -/
abbrev ipLen : Nat := 16
/-- `VER_LEN`: bytes of the software-version identifier (R4). -/
abbrev verLen : Nat := 7
/-- `MAC_LEN`: bytes of the MAC-address identifier (R4). -/
abbrev macLen : Nat := 17
/-- `FW_BEGIN`: payload of the begin-transfer frame (R4). -/
abbrev fwBeginByte : Byte := 0x01
/-- `FW_END`: payload of the end-transfer frame (R4). -/
abbrev fwEndByte : Byte := 0x02
/-- `RESET_VAL`: payload of the software-reset frame (R4). -/
abbrev resetVal : Byte := 0x01

/-- `VER_SEPS`: the separators of a version string (R4). -/
def isVersionSeparator (c : Char) : Bool :=
  c == '.' || c == ',' || c == ' ' || c == '_'

/-- The length byte of a write request, a table of constants and not a sum; no other payload length has a frame
(spec/30_encoding.md R53, spec/40_codec.md R81; the value for 16 bytes is decision D2, log 7). -/
def lenByte (payloadLength : Nat) : Option Byte :=
  if payloadLength = 1 then some 0x02
  else if payloadLength = 8 then some 0x09
  else if payloadLength = 16 then some 0x11
  else if payloadLength = 128 then some 0x81
  else none

end Sys2Proof.Machine
end

