-- ==== Sys2Proof/Machine/Catalog.lean ====
section
/-! DEFINITION. The register catalog as data: id, direction and wire shape of the 20 registers (spec/10_state.md R12,
R13), and the permitted attenuation values (spec/41_transactions.md R105). The registers themselves are the device's. -/

namespace Sys2Proof.Machine

/-- The registers a command can name, and no others (spec/10_state.md R12). -/
inductive Reg where
  | att | tempAc | tempBd | spAc | spBd | tcs | heatAc | heatBd | softReset | fwCtl | fwData | version
  | pidAcKc | pidAcTi | pidAcTd | pidBdKc | pidBdTi | pidBdTd | ip | mac
  deriving DecidableEq, Repr

/-- How a register's value lies in a payload or a value region (spec/10_state.md R12, spec/00_scope.md section 8). -/
inductive Shape where
  | f64
  | u8
  | bytes (n : Nat)
  deriving DecidableEq, Repr

/-- Who writes a register (spec/10_state.md R12, R13; decision D14). -/
inductive Writer where
  | nobody
  | host
  | upload
  deriving DecidableEq, Repr

/-- The rows of the catalog. -/
def Reg.all : List Reg :=
  [.att, .tempAc, .tempBd, .spAc, .spBd, .tcs, .heatAc, .heatBd, .softReset, .fwCtl, .fwData, .version,
   .pidAcKc, .pidAcTi, .pidAcTd, .pidBdKc, .pidBdTi, .pidBdTd, .ip, .mac]

/-- The one-byte id (spec/10_state.md R12). -/
def Reg.id : Reg → Byte
  | .att => 0x00
  | .tempAc => 0x01
  | .tempBd => 0x02
  | .spAc => 0x03
  | .spBd => 0x04
  | .tcs => 0x05
  | .heatAc => 0x06
  | .heatBd => 0x07
  | .softReset => 0x08
  | .fwCtl => 0x09
  | .fwData => 0x0A
  | .version => 0x0B
  | .pidAcKc => 0x0C
  | .pidAcTi => 0x0D
  | .pidAcTd => 0x0E
  | .pidBdKc => 0x0F
  | .pidBdTi => 0x10
  | .pidBdTd => 0x11
  | .ip => 0x12
  | .mac => 0x13

/-- The wire shape (spec/10_state.md R12). -/
def Reg.shape : Reg → Shape
  | .att | .tempAc | .tempBd | .spAc | .spBd | .heatAc | .heatBd => .f64
  | .pidAcKc | .pidAcTi | .pidAcTd | .pidBdKc | .pidBdTi | .pidBdTd => .f64
  | .tcs | .softReset | .fwCtl => .u8
  | .fwData => .bytes chunkSize
  | .version => .bytes verLen
  | .ip => .bytes ipLen
  | .mac => .bytes macLen

/-- Whether a command reads the register (spec/10_state.md R13). -/
def Reg.readable : Reg → Bool
  | .softReset | .fwCtl | .fwData | .ip => false
  | .att | .tempAc | .tempBd | .spAc | .spBd | .tcs | .heatAc | .heatBd | .version => true
  | .pidAcKc | .pidAcTi | .pidAcTd | .pidBdKc | .pidBdTi | .pidBdTd | .mac => true

/-- Who writes the register (spec/10_state.md R13). -/
def Reg.writer : Reg → Writer
  | .tempAc | .tempBd | .version | .mac => .nobody
  | .fwCtl | .fwData => .upload
  | .att | .spAc | .spBd | .tcs | .heatAc | .heatBd | .softReset | .ip => .host
  | .pidAcKc | .pidAcTi | .pidAcTd | .pidBdKc | .pidBdTi | .pidBdTd => .host

/-- The register of an id; ids 0x14 to 0xFF are none (spec/20_memory.md R31). -/
def Reg.ofId (reg : Byte) : Option Reg :=
  Reg.all.find? fun r => r.id == reg

/-- `ATT_SET`: the patterns of k / 2 for k = 0 to 63, as R105 lists them (log 25). -/
def attSet : List Word64 :=
  [0x0000000000000000, 0x3FE0000000000000, 0x3FF0000000000000, 0x3FF8000000000000,
   0x4000000000000000, 0x4004000000000000, 0x4008000000000000, 0x400C000000000000,
   0x4010000000000000, 0x4012000000000000, 0x4014000000000000, 0x4016000000000000,
   0x4018000000000000, 0x401A000000000000, 0x401C000000000000, 0x401E000000000000] ++
  [0x4020000000000000, 0x4021000000000000, 0x4022000000000000, 0x4023000000000000,
   0x4024000000000000, 0x4025000000000000, 0x4026000000000000, 0x4027000000000000,
   0x4028000000000000, 0x4029000000000000, 0x402A000000000000, 0x402B000000000000,
   0x402C000000000000, 0x402D000000000000, 0x402E000000000000, 0x402F000000000000] ++
  [0x4030000000000000, 0x4030800000000000, 0x4031000000000000, 0x4031800000000000,
   0x4032000000000000, 0x4032800000000000, 0x4033000000000000, 0x4033800000000000,
   0x4034000000000000, 0x4034800000000000, 0x4035000000000000, 0x4035800000000000,
   0x4036000000000000, 0x4036800000000000, 0x4037000000000000, 0x4037800000000000] ++
  [0x4038000000000000, 0x4038800000000000, 0x4039000000000000, 0x4039800000000000,
   0x403A000000000000, 0x403A800000000000, 0x403B000000000000, 0x403B800000000000,
   0x403C000000000000, 0x403C800000000000, 0x403D000000000000, 0x403D800000000000,
   0x403E000000000000, 0x403E800000000000, 0x403F000000000000, 0x403F800000000000]

/-- The pattern of negative zero, whose acceptance the spec leaves open (R105, decision D11). -/
def negZero : Word64 := 0x8000000000000000

end Sys2Proof.Machine
end

