-- ==== Sys2Proof/Machine/State.lean ====
section
/-! DEFINITION. The state of the block as plain data (spec/10_state.md R10 to R24), the errors and results of its
commands (spec/60_exceptions.md R180), and the state after construction (R23). -/

namespace Sys2Proof.Machine

/-- Whether the block owns a live connection (spec/10_state.md R16). -/
inductive Conn where
  | opened
  | closed
  deriving DecidableEq, Repr

/-- Where a transport error arose (spec/60_exceptions.md R180, R184; spec/70_reset_and_hazards.md R210). -/
inductive Place where
  | connect
  | send
  | recv
  deriving DecidableEq, Repr

/-- Which operand an `InvalidArgument` is about (spec/60_exceptions.md R180, R181). -/
inductive BadOperand where
  | attenuation
  | versionComponent
  deriving DecidableEq, Repr

/-- The four error outcomes of a command and no others (spec/60_exceptions.md R180; decision D21). They are results a
host receives, not faults of the machine. -/
inductive Error where
  /-- R181. -/
  | invalidArgument (operand : BadOperand)
  /-- R182, a kind of `InvalidArgument`: `Error.isInvalidArgument` holds of it too. -/
  | invalidVersionFormat
  /-- R183: bytes needed and bytes received. -/
  | shortResponse (need got : Nat)
  /-- R184, timeout included. -/
  | transport (place : Place)
  deriving DecidableEq, Repr

/-- The values a command returns. -/
inductive Value where
  /-- No value: `OK()`. -/
  | unit
  /-- A float, as its binary64 pattern. -/
  | f64 (w : Word64)
  /-- One byte. -/
  | u8 (b : Byte)
  /-- A byte sequence. -/
  | bytes (b : Bytes)
  /-- The three components of a version string (spec/42_firmware_upload.md R152). -/
  | version (major minor patch : Byte)
  deriving DecidableEq, Repr

/-- The result of one command: `OK(v)` or one error (spec/00_scope.md R6, spec/60_exceptions.md R187). -/
inductive Result where
  | ok (v : Value)
  | error (e : Error)
  deriving DecidableEq, Repr

/-- A transport event (spec/10_state.md R24, spec/20_memory.md R33 to R37). -/
inductive Event where
  | connect (host : Text) (port : Nat) (answer : Reply)
  | setNoDelay
  | setTimeout (seconds : Nat)
  | send (frame : Bytes) (answer : Reply)
  | recv (limit : Nat) (answer : RecvAnswer)
  | close
  deriving DecidableEq, Repr

/-- The configuration record, written once, by `OPEN` (spec/10_state.md R19). -/
structure Cfg where
  host : Text
  port : Nat
  /-- Seconds; hardwired 5. -/
  timeout : Nat
  /-- Hardwired true. -/
  nodelay : Bool
  /-- Hardwired 1024. -/
  rxMax : Nat
  deriving DecidableEq, Repr

/-- The operands of the `FW_UPLOAD` in progress (spec/42_firmware_upload.md R150; log 15): the parsed version and the
image, fixed for the whole command (spec/20_memory.md R46). -/
structure Upload where
  major : Byte
  minor : Byte
  patch : Byte
  image : Bytes
  deriving DecidableEq, Repr

/-- The whole state: the block's own elements (spec/10_state.md R10), the event history (R24), and, as plain data, what
the spec makes a parameter of the step relation (R10, last paragraph; spec/00_scope.md R5). -/
structure State where
  /-- R16. -/
  conn : Conn
  /-- R17: a request has been sent and its response not yet read. -/
  awaiting : Bool
  /-- R18: a command is being executed. -/
  busy : Bool
  /-- R14. -/
  fwState : FwState
  /-- R15: bytes of the image consumed by the current upload. -/
  imgOff : Nat
  /-- R19. -/
  cfg : Cfg
  /-- R24: the transport events the block caused, oldest first. -/
  history : List Event
  /-- Model's own (log 10): whether `OPEN` has brought the block into being (R23). -/
  created : Bool
  /-- Model's own (log 15): the upload in progress. -/
  upload : Option Upload
  /-- Model's own (log 2): the commands the host has still to present. -/
  pending : List Command
  /-- Model's own (log 17): the results handed to the host, oldest first. -/
  results : List Result
  /-- Model's own (log 3): the environment's answers to the next `Connect`s. -/
  connectAnswers : List Reply
  /-- Model's own (log 3): the environment's answers to the next `Send`s. -/
  sendAnswers : List Reply
  /-- Model's own (log 3, log 4): what the next `Recv`s meet. -/
  recvAnswers : List RecvAnswer
  /-- Model's own (log 3): how many free answers have been drawn. -/
  drawn : Nat
  deriving DecidableEq, Repr

/-- Why the machine stops with a fault. No state that a run reaches raises one: "No behaviour is `stuck`"
(spec/93_implementation_defined.md section 1). -/
inductive Fault where
  /-- Raised by `step` alone, in a state where a command is being executed and no upload is in progress whose next frame
  is defined; no run reaches such a state. Safe (log 32). -/
  | lostUpload
  deriving DecidableEq, Repr

/-- Why the machine gives a command no step. Each is a violated precondition of the spec, which is no error outcome
(spec/60_exceptions.md R187 item 1). -/
inductive Refusal where
  /-- Raised by an arm of `exec` whose instruction has no meaning yet. Safe. -/
  | notModelled (mnemonic : String)
  /-- Raised for a command other than `OPEN` and the pure codec operations when no block exists
  (spec/10_state.md R23). Safe (log 10). -/
  | noBlock
  /-- Raised by `OPEN` where the block already exists: no re-initialisation of a live block, no way back from `Closed`
  (spec/70_reset_and_hazards.md R210, spec/10_state.md R16). Safe (log 10). -/
  | alreadyOpen
  /-- Raised for a command while another is being executed or a request is unanswered (spec/70_reset_and_hazards.md
  R217, decision D22; the precondition of spec/41_transactions.md R100). Safe (log 16). -/
  | busy
  /-- Raised when a frame given as a command encodes no command of the block (spec/41_transactions.md R134,
  spec/30_encoding.md R63). Safe (log 21). -/
  | badFrame (why : Reject)
  /-- Raised by `SET_IP` for an operand longer than 16 bytes (spec/41_transactions.md R132, decision D12).
  Safe (log 11). -/
  | ipTooLong
  /-- Raised by `ENC_WRITE` for a payload length outside 1, 8, 16 and 128 (spec/40_codec.md R81), and by `UNPACK_F64`
  for a sequence that is not 8 bytes long (R85). Safe (log 12). -/
  | payloadLength
  /-- Raised by an upload frame that is not the one the sequencer sends next: the four upload frames are not commands a
  host can give singly (spec/30_encoding.md R66, spec/41_transactions.md R134). Safe (log 18). -/
  | outsideUpload
  deriving DecidableEq, Repr

/-- The configuration `OPEN(host, port)` writes (spec/10_state.md R19, spec/70_reset_and_hazards.md R210). -/
def Cfg.opened (host : Text) (port : Nat) : Cfg :=
  { host := host, port := port, timeout := timeoutSeconds, nodelay := true, rxMax := rxLimit }

/-- Where no block exists yet (spec/10_state.md R23, "Before `OPEN` the block does not exist"): the state in which a
host can give `OPEN`. It is not a state of the block (log 10). -/
def State.beforeOpen : State :=
  { conn := .closed, awaiting := false, busy := false, fwState := .idle, imgOff := 0, cfg := Cfg.opened [] 0,
    history := [], created := false, upload := none, pending := [], results := [],
    connectAnswers := [], sendAnswers := [], recvAnswers := [], drawn := 0 }

/-- The machine right after reset, which is its construction (spec/10_state.md R23, spec/70_reset_and_hazards.md R210,
R211). The host and the port are operands of `OPEN` without a default: the empty text and 0 are DESIGN CHOICES (log 8). -/
def State.reset : State :=
  { conn := .opened, awaiting := false, busy := false, fwState := .idle, imgOff := 0, cfg := Cfg.opened [] 0,
    history := [.connect [] 0 .ok, .setNoDelay, .setTimeout timeoutSeconds], created := true, upload := none, pending := [],
    results := [], connectAnswers := [], sendAnswers := [], recvAnswers := [], drawn := 0 }

end Sys2Proof.Machine
end

