-- ==== Sys2Proof/Machine/Operands.lean ====
section
/-! DEFINITION. Operands: every payload marshalling (spec/30_encoding.md R56 to R61), the validation of operands
(spec/41_transactions.md R105), and the version-string parser (spec/42_firmware_upload.md R152). -/

namespace Sys2Proof.Machine

/-- `le64`: the 8 bytes of a word, least significant first (spec/00_scope.md R6; `PACK_F64`, spec/40_codec.md R85). -/
def le64 (w : Word64) : Bytes :=
  [w.extractLsb' 0 8, w.extractLsb' 8 8, w.extractLsb' 16 8, w.extractLsb' 24 8,
   w.extractLsb' 32 8, w.extractLsb' 40 8, w.extractLsb' 48 8, w.extractLsb' 56 8]

/-- The number whose base-256 digits are those of `b`, the least significant first. -/
def leNat : Bytes → Nat
  | [] => 0
  | b :: rest => b.toNat + 256 * leNat rest

/-- `unle64`: the word `w` with `w[8k+7:8k] = b[k]` (spec/00_scope.md R6; `UNPACK_F64`, spec/40_codec.md R85). -/
def unle64 (b : Bytes) : Word64 :=
  BitVec.ofNat 64 (leNat b)

/-- `b` followed by copies of `fill` up to `n` bytes. -/
def padRight (fill : Byte) (n : Nat) (b : Bytes) : Bytes :=
  b ++ List.replicate (n - b.length) fill

/-- The payload of `SET_IP` (spec/30_encoding.md R58). -/
def ipPayload (a : Bytes) : Bytes :=
  padRight padIp ipLen a

/-- The payload of the version frame: three bytes and 125 zero bytes (spec/30_encoding.md R59). -/
def versionPayload (major minor patch : Byte) : Bytes :=
  padRight padVer chunkSize [major, minor, patch]

/-- The payload of a chunk frame (spec/30_encoding.md R60). -/
def chunkPayload (c : Bytes) : Bytes :=
  padRight padFw chunkSize c

/-- Whether `SET_ATT` accepts an operand: one of the 64 patterns, or negative zero where the open parameter says so
(spec/41_transactions.md R105, decision D11; log 5). -/
def attAccepted (v : Word64) : Bool :=
  attSet.contains v || (v == negZero && Config.attNegZeroOk)

/-- Cut a text at every separator: k separators give k + 1 parts, empty ones included (spec/42_firmware_upload.md
R152). -/
def splitVersion : Text → List Text
  | [] => [[]]
  | c :: cs =>
    if isVersionSeparator c then [] :: splitVersion cs
    else
      match splitVersion cs with
      | part :: parts => (c :: part) :: parts
      | [] => [[c]]

/-- An ASCII digit (spec/42_firmware_upload.md R152, decision D9). -/
def isDigit (c : Char) : Bool :=
  48 ≤ c.toNat && c.toNat ≤ 57

/-- A component of a version string: a non-empty run of ASCII digits (R152, decision D9). -/
def isDecimal (part : Text) : Bool :=
  !part.isEmpty && part.all isDigit

/-- The decimal value of a run of digits (R152). -/
def decimalValue (part : Text) : Nat :=
  part.foldl (fun n c => 10 * n + (c.toNat - 48)) 0

/-- `PARSE_VERSION` (spec/42_firmware_upload.md R152): the format of all parts is checked before the range of any
(decision D27). -/
def parseVersion (version : Text) : Except Error (Byte × Byte × Byte) :=
  match splitVersion version with
  | [a, b, c] =>
    if isDecimal a && isDecimal b && isDecimal c then
      if decimalValue a ≤ 255 ∧ decimalValue b ≤ 255 ∧ decimalValue c ≤ 255 then
        .ok (BitVec.ofNat 8 (decimalValue a), BitVec.ofNat 8 (decimalValue b), BitVec.ofNat 8 (decimalValue c))
      else .error (.invalidArgument .versionComponent)
    else .error .invalidVersionFormat
  | _ => .error .invalidVersionFormat

/-- `ImgRead(off, n)`: the bytes of the image from `off`, at most `n` of them (spec/20_memory.md R36). -/
def imgRead (image : Bytes) (off n : Nat) : Bytes :=
  (image.drop off).take n

end Sys2Proof.Machine
end

