-- ==== Sys2Proof/Machine/Codec.lean ====
section
/-! DEFINITION. The Frame Codec: pure encoders and decoders (spec/40_codec.md R80 to R89). -/

namespace Sys2Proof.Machine

/-- `ENC_READ(reg)`: the fixed 4-byte read request (spec/40_codec.md R80, spec/30_encoding.md R51). -/
def encRead (reg : Byte) : Bytes :=
  [clsRead, hdr1, lenRead, reg]

/-- `ENC_WRITE(reg, payload)`: a write request, or no frame for a payload length the table has no row for
(spec/40_codec.md R81, spec/30_encoding.md R52, R53). -/
def encWrite (reg : Byte) (payload : Bytes) : Option Bytes :=
  match lenByte payload.length with
  | some len => some ([clsWrite, hdr1, len, reg] ++ payload)
  | none => none

/-- `DEC_FLOAT(r)` (spec/40_codec.md R82). -/
def decFloat (r : Bytes) : Except Error Word64 :=
  if r.length < 11 then .error (.shortResponse 11 r.length)
  else .ok (unle64 ((r.drop rspPrefix).take 8))

/-- `DEC_BYTE(r)` (spec/40_codec.md R83). -/
def decByte (r : Bytes) : Except Error Byte :=
  if r.length < 4 then .error (.shortResponse 4 r.length)
  else .ok (r.getD rspPrefix 0)

/-- `DEC_BYTES(r, n)` (spec/40_codec.md R84). -/
def decBytes (r : Bytes) (n : Nat) : Except Error Bytes :=
  if r.length < 3 + n then .error (.shortResponse (3 + n) r.length)
  else .ok ((r.drop rspPrefix).take n)

/-- The result a decoder's answer is for the host (spec/60_exceptions.md R183, R188). -/
def resultOf {α : Type} (value : α → Value) : Except Error α → Result
  | .ok a => .ok (value a)
  | .error e => .error e

/-- The decoder of a wire shape, applied to a response (spec/41_transactions.md R101, spec/30_encoding.md R55). -/
def decodeValue (shape : Shape) (r : Bytes) : Result :=
  match shape with
  | .f64 => resultOf Value.f64 (decFloat r)
  | .u8 => resultOf Value.u8 (decByte r)
  | .bytes n => resultOf Value.bytes (decBytes r n)

end Sys2Proof.Machine
end

