-- ==== Sys2Proof/WellFormed.lean ====
section
/-! DEFINITION. Which instructions have a frame or a response of the spec: the payload column of spec/30_encoding.md
R62, and for responses the length of R54. An instruction that is not well-formed still has its meaning. -/

namespace Sys2Proof

/-- Whether the instruction is a request of the block (the 34 rows of spec/30_encoding.md R62) and not a response. -/
def Instr.isRequest : Instr → Bool
  | .rspF64 _ | .rspU8 _ | .rspB7 _ | .rspB17 _ | .ack _ => false
  | .getAtt | .getTempAc | .getTempBd | .getSpAc | .getSpBd | .getTcs | .getHeatAc | .getHeatBd | .getVersion
  | .getPidAcKc | .getPidAcTi | .getPidAcTd | .getPidBdKc | .getPidBdTi | .getPidBdTd | .getMac
  | .setAtt _ | .setSpAc _ | .setSpBd _ | .setTcs _ | .setHeatAc _ | .setHeatBd _ | .reset
  | .fwBegin | .fwEnd | .fwVersion _ _ _ | .fwChunk _
  | .setPidAcKc _ | .setPidAcTi _ | .setPidAcTd _ | .setPidBdKc _ | .setPidBdTi _ | .setPidBdTd _ | .setIp _ => true

/-- The operand checks: `SET_ATT` takes an accepted pattern (R105), `SET_TCS` 0 or 1 (R113), `SET_IP` at most 16 bytes
(R132), a chunk is 1 to 128 bytes (R60), and a response is what one receive can return (R54). -/
def WellFormed : Instr → Bool
  | .setAtt v => Machine.attAccepted v
  | .setTcs v => v == 0 || v == 1
  | .setIp a => a.length ≤ Machine.ipLen
  | .fwChunk c => 1 ≤ c.length && c.length ≤ Machine.chunkSize
  | .rspF64 r | .rspU8 r | .rspB7 r | .rspB17 r | .ack r => r.length ≤ Machine.rxLimit
  | .getAtt | .getTempAc | .getTempBd | .getSpAc | .getSpBd | .getTcs | .getHeatAc | .getHeatBd | .getVersion
  | .getPidAcKc | .getPidAcTi | .getPidAcTd | .getPidBdKc | .getPidBdTi | .getPidBdTd | .getMac
  | .setSpAc _ | .setSpBd _ | .setHeatAc _ | .setHeatBd _ | .reset | .fwBegin | .fwEnd | .fwVersion _ _ _
  | .setPidAcKc _ | .setPidAcTi _ | .setPidAcTd _ | .setPidBdKc _ | .setPidBdTi _ | .setPidBdTd _ => true

end Sys2Proof
end

