-- ==== Sys2Proof/Decode.lean ====
section
/-! DEFINITION. From bytes to instructions and back (spec/30_encoding.md). A request frame is read by the row it matches
(R62, R67); a response is read by the format the outstanding request selects (R55), never by its own bytes (R64). -/

namespace Sys2Proof

open Machine

/-- The read command of a register, where it is readable (spec/30_encoding.md R62). -/
def readInstr : Reg → Option Instr
  | .att => some .getAtt
  | .tempAc => some .getTempAc
  | .tempBd => some .getTempBd
  | .spAc => some .getSpAc
  | .spBd => some .getSpBd
  | .tcs => some .getTcs
  | .heatAc => some .getHeatAc
  | .heatBd => some .getHeatBd
  | .version => some .getVersion
  | .pidAcKc => some .getPidAcKc
  | .pidAcTi => some .getPidAcTi
  | .pidAcTd => some .getPidAcTd
  | .pidBdKc => some .getPidBdKc
  | .pidBdTi => some .getPidBdTi
  | .pidBdTd => some .getPidBdTd
  | .mac => some .getMac
  | .softReset | .fwCtl | .fwData | .ip => none

/-- The instruction that writes an 8-byte payload, where the payload is 8 bytes. -/
def f64Write (reg : Byte) (payload : Bytes) (i : Word64 → Instr) : Except Reject Instr :=
  if payload.length = 8 then .ok (i (unle64 payload)) else .error (.badPayload reg)

/-- The write to register 0x09: the two fixed frames (spec/30_encoding.md R62). -/
def ctlWrite (reg : Byte) (payload : Bytes) : Except Reject Instr :=
  if payload = [fwBeginByte] then .ok .fwBegin
  else if payload = [fwEndByte] then .ok .fwEnd
  else .error (.badPayload reg)

/-- The write to register 0x0A: no bit tells a version frame from a chunk frame, the sequencer state does: the first
such frame of an upload is the version frame, every later one a chunk (spec/30_encoding.md R62; log 18). -/
def dataWrite (st : FwState) (reg : Byte) (payload : Bytes) : Except Reject Instr :=
  if payload.length = chunkSize then
    match st with
    | .versionSent | .uploading => .ok (.fwChunk payload)
    | .idle | .finalized | .aborted =>
      match payload with
      | major :: minor :: patch :: rest =>
        if rest = List.replicate 125 padVer then .ok (.fwVersion major minor patch) else .error (.badPayload reg)
      | _ => .error (.badPayload reg)
  else .error (.badPayload reg)

/-- The write of a register, where it is writable; the value of an operand is not judged here but by the command
(spec/30_encoding.md R62, R67; log 21). -/
def writeInstr (st : FwState) (r : Reg) (payload : Bytes) : Except Reject Instr :=
  match r with
  | .att => f64Write r.id payload .setAtt
  | .spAc => f64Write r.id payload .setSpAc
  | .spBd => f64Write r.id payload .setSpBd
  | .heatAc => f64Write r.id payload .setHeatAc
  | .heatBd => f64Write r.id payload .setHeatBd
  | .pidAcKc => f64Write r.id payload .setPidAcKc
  | .pidAcTi => f64Write r.id payload .setPidAcTi
  | .pidAcTd => f64Write r.id payload .setPidAcTd
  | .pidBdKc => f64Write r.id payload .setPidBdKc
  | .pidBdTi => f64Write r.id payload .setPidBdTi
  | .pidBdTd => f64Write r.id payload .setPidBdTd
  | .tcs =>
    match payload with
    | [b] => .ok (.setTcs (b.toNat : Int))
    | _ => .error (.badPayload r.id)
  | .softReset => if payload = [resetVal] then .ok .reset else .error (.badPayload r.id)
  | .fwCtl => ctlWrite r.id payload
  | .fwData => dataWrite st r.id payload
  | .ip => if payload.length = ipLen then .ok (.setIp payload) else .error (.badPayload r.id)
  | .tempAc | .tempBd | .version | .mac => .error (.notWritable r.id)

/-- The instruction of a request frame, given the sequencer state; every byte sequence has an answer, an instruction or
a reason by name (spec/30_encoding.md R50 to R53, R62, R63). -/
def decodeRequest (st : FwState) (b : Bytes) : Except Reject Instr :=
  match b with
  | cls :: h1 :: len :: reg :: payload =>
    if h1 ≠ hdr1 then .error (.badHeader1 h1)
    else if cls = clsRead then
      if len ≠ lenRead ∨ payload ≠ [] then .error (.badLength len)
      else
        match Reg.ofId reg with
        | none => .error (.notInCatalog reg)
        | some r =>
          match readInstr r with
          | some i => .ok i
          | none => .error (.notReadable reg)
    else if cls = clsWrite then
      if lenByte payload.length ≠ some len then .error (.badLength len)
      else
        match Reg.ofId reg with
        | none => .error (.notInCatalog reg)
        | some r => writeInstr st r payload
    else .error (.badClass cls)
  | _ => .error .shortHeader

/-- The instruction of a response, by the format the outstanding request selects (spec/30_encoding.md R54, R55). -/
def decodeResponse (fmt : RspFormat) (r : Bytes) : Except Reject Instr :=
  if r.length ≤ rxLimit then
    match fmt with
    | .f64 => .ok (.rspF64 r)
    | .u8 => .ok (.rspU8 r)
    | .b7 => .ok (.rspB7 r)
    | .b17 => .ok (.rspB17 r)
    | .ack => .ok (.ack r)
  else .error .tooLong

/-- How many bytes the request frame at the head of a byte sequence has: byte 2 counts the bytes after it
(spec/30_encoding.md R64). -/
def frameLength (b : Bytes) : Nat :=
  3 + (b.getD 2 0).toNat

/-- The write request of a register's id and a payload the table has a length byte for (spec/40_codec.md R81). -/
def writeFrame (r : Reg) (payload : Bytes) : Bytes :=
  (encWrite r.id payload).getD []

/-- The frame of a well-formed request, or the bytes of a response (spec/30_encoding.md R62, R55). -/
def encode : Instr → Bytes
  | .getAtt => encRead Reg.att.id
  | .getTempAc => encRead Reg.tempAc.id
  | .getTempBd => encRead Reg.tempBd.id
  | .getSpAc => encRead Reg.spAc.id
  | .getSpBd => encRead Reg.spBd.id
  | .getTcs => encRead Reg.tcs.id
  | .getHeatAc => encRead Reg.heatAc.id
  | .getHeatBd => encRead Reg.heatBd.id
  | .getVersion => encRead Reg.version.id
  | .getPidAcKc => encRead Reg.pidAcKc.id
  | .getPidAcTi => encRead Reg.pidAcTi.id
  | .getPidAcTd => encRead Reg.pidAcTd.id
  | .getPidBdKc => encRead Reg.pidBdKc.id
  | .getPidBdTi => encRead Reg.pidBdTi.id
  | .getPidBdTd => encRead Reg.pidBdTd.id
  | .getMac => encRead Reg.mac.id
  | .setAtt v => writeFrame .att (le64 v)
  | .setSpAc v => writeFrame .spAc (le64 v)
  | .setSpBd v => writeFrame .spBd (le64 v)
  | .setTcs v => writeFrame .tcs [BitVec.ofInt 8 v]
  | .setHeatAc v => writeFrame .heatAc (le64 v)
  | .setHeatBd v => writeFrame .heatBd (le64 v)
  | .reset => writeFrame .softReset [resetVal]
  | .fwBegin => writeFrame .fwCtl [fwBeginByte]
  | .fwEnd => writeFrame .fwCtl [fwEndByte]
  | .fwVersion major minor patch => writeFrame .fwData (versionPayload major minor patch)
  | .fwChunk c => writeFrame .fwData (chunkPayload c)
  | .setPidAcKc v => writeFrame .pidAcKc (le64 v)
  | .setPidAcTi v => writeFrame .pidAcTi (le64 v)
  | .setPidAcTd v => writeFrame .pidAcTd (le64 v)
  | .setPidBdKc v => writeFrame .pidBdKc (le64 v)
  | .setPidBdTi v => writeFrame .pidBdTi (le64 v)
  | .setPidBdTd v => writeFrame .pidBdTd (le64 v)
  | .setIp a => writeFrame .ip (ipPayload a)
  | .rspF64 r => r
  | .rspU8 r => r
  | .rspB7 r => r
  | .rspB17 r => r
  | .ack r => r

/-- The sequencer states in which a request's frame is read as that request: only the two frames to register 0x0A
depend on it (spec/30_encoding.md R62). -/
def Instr.readIn : Instr → FwState → Bool
  | .fwVersion _ _ _, st => st == .idle || st == .finalized || st == .aborted
  | .fwChunk _, st => st == .versionSent || st == .uploading
  | i, _ => i.isRequest

/-- The instruction with its operand as it lies on the wire: the operands that are padded to a fixed length have lost
how long they were (spec/30_encoding.md R58, R60; log 20). -/
def Instr.padded : Instr → Instr
  | .setIp a => .setIp (ipPayload a)
  | .fwChunk c => .fwChunk (chunkPayload c)
  | i => i

/-- The low `8 * n` bits of a number as bytes, the least significant byte first. -/
def bytesOfNat : Nat → Nat → Bytes
  | 0, _ => []
  | n + 1, w => BitVec.ofNat 8 (w % 256) :: bytesOfNat n (w / 256)

/-- The bytes of the longest frame (132) whose first `nbits` bits are those of `w` and whose other bits are 0: byte 0 of
a frame is bits 7..0, byte 1 bits 15..8, and so on (log 18). -/
def tableBytes (nbits w : Nat) : Bytes :=
  bytesOfNat 132 (w % 2 ^ nbits)

/-- The same for a number written as the table writes a row, in hexadecimal with byte 0 first (spec/30_encoding.md R67;
log 18). -/
def tableHexBytes (nbits w : Nat) : Bytes :=
  (bytesOfNat (nbits / 8) w).reverse ++ List.replicate (132 - nbits / 8) 0x00

/-- The request at the head of a byte sequence: as it is read at the start of an upload, and where there is none as it
is read within one (log 18). -/
def decodeFirst (b : Bytes) : Option Instr :=
  match decodeRequest .idle (b.take (frameLength b)) with
  | .ok i => some i
  | .error _ =>
    match decodeRequest .uploading (b.take (frameLength b)) with
    | .ok i => some i
    | .error _ => none

/-- The response format whose least length is `n` bytes (spec/30_encoding.md R55); a bare prefix is long enough for an
acknowledgment only (log 18). -/
def formatOfLength (n : Nat) : Option RspFormat :=
  if n = 11 then some .f64
  else if n = 4 then some .u8
  else if n = 10 then some .b7
  else if n = 20 then some .b17
  else if n = 0 ∨ n = 3 then some .ack
  else none

/-- The bytes an instruction given as a number with its width stands for: byte 0 at bits 7..0; where those bytes begin no
request but the bytes in the order of the table's hexadecimal do, those (log 18). -/
def tableFrame (nbits w : Nat) : Bytes :=
  if (decodeFirst (tableBytes nbits w)).isSome then tableBytes nbits w
  else if (decodeFirst (tableHexBytes nbits w)).isSome then tableHexBytes nbits w
  else tableBytes nbits w

/-- What the decoder reads from an instruction given as a number with its width (log 18). -/
def decodeTableWord (nbits w : Nat) : Option Instr :=
  match decodeFirst (tableFrame nbits w) with
  | some i => some i
  | none =>
    match formatOfLength (nbits / 8) with
    | some fmt =>
      match decodeResponse fmt ((tableFrame nbits w).take (nbits / 8)) with
      | .ok i => some i
      | .error _ => none
    | none => none

end Sys2Proof
end

