-- ==== Sys2Proof/Machine/Flags.lean ====
section
/-! DEFINITION. The flags and registers of the block: the one place that writes each (spec/10_state.md R14 to R18, R24).
The block has no condition code and no sticky flag (R20), so no flag is computed from data. -/

namespace Sys2Proof.Machine

/-- Write `awaiting` (R17). -/
def State.setAwaiting (b : Bool) (s : State) : State := { s with awaiting := b }

/-- Write `busy` (R18). -/
def State.setBusy (b : Bool) (s : State) : State := { s with busy := b }

/-- Write `fw_state` (R14). -/
def State.setFw (st : FwState) (s : State) : State := { s with fwState := st }

/-- Write `img_off` (R15). -/
def State.setImgOff (n : Nat) (s : State) : State := { s with imgOff := n }

/-- Write `conn` (R16). -/
def State.setConn (c : Conn) (s : State) : State := { s with conn := c }

/-- Take or drop the operands of an upload (log 15). -/
def State.setUpload (u : Option Upload) (s : State) : State := { s with upload := u }

/-- Append one transport event to the history (R24). -/
def State.record (e : Event) (s : State) : State := { s with history := s.history ++ [e] }

/-- Hand one result to the host (spec/60_exceptions.md R188). -/
def State.report (r : Result) (s : State) : State := { s with results := s.results ++ [r] }

end Sys2Proof.Machine
end

