-- ==== Sys2Proof/Machine/Ops.lean ====
section
/-! DEFINITION. The operations all commands share: the transport primitives (spec/20_memory.md R33 to R38), the
transaction (spec/41_transactions.md R100), the two generic accessors (R101 to R103), raising an error
(spec/60_exceptions.md R188), and the frames of the upload (spec/42_firmware_upload.md R158). -/

namespace Sys2Proof.Machine

/-! ### Transport primitives -/

/-- The environment's answer to the next `Connect`: the one the state lists, else a free one (R38; log 3). -/
def State.connectAnswer (s : State) : Reply :=
  s.connectAnswers.headD (Config.freeConnect s.drawn)

/-- The environment's answer to the next `Send` (R33, R38; log 3). -/
def State.sendAnswer (s : State) : Reply :=
  s.sendAnswers.headD (Config.freeSend s.drawn)

/-- What the next `Recv` meets, before the receive takes its part of it (R34, R38; log 3). -/
def State.recvReady (s : State) : RecvAnswer :=
  s.recvAnswers.headD (Config.freeRecv s.drawn)

/-- The answer of `Recv(n)`: at most `n` bytes (R34). -/
def recvPart (n : Nat) : RecvAnswer → RecvAnswer
  | .ok r => .ok (r.take n)
  | .fail => .fail

/-- What one receive leaves for the next: the bytes it did not return (spec/10_state.md R21; log 4). -/
def residue (n : Nat) : RecvAnswer → List RecvAnswer
  | .ok r => if r.length ≤ n then [] else [.ok (r.drop n)]
  | .fail => []

/-- 1 where an answer list is used up and the answer is drawn freely, else 0 (log 3). -/
def drawsFree {α : Type} (answers : List α) : Nat :=
  if answers.isEmpty then 1 else 0

/-- `Connect(host, port)` (R37): its event; the answer is `connectAnswer` of the state before. -/
def connectStep (host : Text) (port : Nat) (s : State) : State :=
  State.record (.connect host port s.connectAnswer)
    { s with connectAnswers := s.connectAnswers.tail, drawn := s.drawn + drawsFree s.connectAnswers }

/-- `Send(b)` (R33): its event; the answer is `sendAnswer` of the state before. -/
def sendStep (b : Bytes) (s : State) : State :=
  State.record (.send b s.sendAnswer)
    { s with sendAnswers := s.sendAnswers.tail, drawn := s.drawn + drawsFree s.sendAnswers }

/-- The answer of the next `Recv(cfg.rx_max)` (R34). -/
def State.recvAnswer (s : State) : RecvAnswer :=
  recvPart s.cfg.rxMax s.recvReady

/-- `Recv(cfg.rx_max)` (R34): its event; the answer is `recvAnswer` of the state before. -/
def recvStep (s : State) : State :=
  State.record (.recv s.cfg.rxMax s.recvAnswer)
    { s with recvAnswers := residue s.cfg.rxMax s.recvReady ++ s.recvAnswers.tail,
             drawn := s.drawn + drawsFree s.recvAnswers }

/-! ### Results and errors -/

/-- A command ends with a value: the block is ready for the next (spec/10_state.md R18). -/
def complete (v : Value) (s : State) : State :=
  (s.setBusy false).report (.ok v)

/-- What a host that tests for `InvalidArgument` catches: that error, and `InvalidVersionFormat` as the kind of it that a
malformed version string is (spec/60_exceptions.md R180 to R182, decision D8; log 35). -/
def Error.isInvalidArgument : Error → Bool
  | .invalidArgument _ | .invalidVersionFormat => true
  | .shortResponse _ _ | .transport _ => false

/-- What a host that tests for `InvalidVersionFormat` catches: the version-string case alone (spec/60_exceptions.md R182,
decision D8; log 35). -/
def Error.isInvalidVersionFormat : Error → Bool
  | .invalidVersionFormat => true
  | .invalidArgument _ | .shortResponse _ _ | .transport _ => false

/-- Taking an error, the one operation that ends a command with one: the host receives it as the command's result,
`awaiting` and `busy` are false, every other element of the block is as it was (spec/60_exceptions.md R188). There is no
handler and no return from an error (R190). -/
def raise (e : Error) (s : State) : State :=
  ((s.setAwaiting false).setBusy false).report (.error e)

/-- The error inside `FW_UPLOAD`: the sequence is aborted and the same error is raised; `img_off` keeps its value
(spec/42_firmware_upload.md R158). -/
def abortUpload (e : Error) (s : State) : State :=
  raise e ((s.setFw .aborted).setUpload none)

/-! ### The transaction -/

/-- How a transaction ends: a response, or the place of the transport error. -/
inductive Exchange where
  | failed (place : Place)
  | response (r : Bytes)
  deriving DecidableEq, Repr

/-- The state between a successful send and its receive: the request is out, its response is not read
(spec/10_state.md R17). -/
def sentStep (req : Bytes) (s : State) : State :=
  (sendStep req s).setAwaiting true

/-- The receiving half of `TRANSACT` (R100): one receive, never repeated. -/
def receiveResponse (s : State) : Exchange × State :=
  match s.recvAnswer with
  | .fail => (.failed .recv, (recvStep s).setAwaiting false)
  | .ok r => (.response r, (recvStep s).setAwaiting false)

/-- `TRANSACT(req)` (spec/41_transactions.md R100): one send of the whole frame, and if it succeeds one receive. -/
def transact (req : Bytes) (s : State) : Exchange × State :=
  match s.sendAnswer with
  | .fail => (.failed .send, sendStep req s)
  | .ok => receiveResponse (sentStep req s)

/-! ### Accepting a command -/

/-- Acceptance of a command that uses the connection (spec/41_transactions.md R134; spec/70_reset_and_hazards.md R217,
R220; spec/60_exceptions.md R187 item 1). Where the block is closed, the effect R220 allows: `TransportError` at the
send with nothing sent (log 6). The body runs with `busy` true (R18). -/
def accepted (s : State) (body : State → Host.Outcome State Fault Refusal) : Host.Outcome State Fault Refusal :=
  if s.created then
    if s.busy || s.awaiting then .refused .busy
    else
      match s.conn with
      | .closed => .next (raise (.transport .send) s)
      | .opened => body (s.setBusy true)
  else .refused .noBlock

/-! ### The generic accessors -/

/-- The end of a read: the error of the transaction, or what the decoder of the register's shape answers (R101). -/
def finishRead (shape : Shape) : Exchange × State → State
  | (.failed place, s) => raise (.transport place) s
  | (.response r, s) =>
    match decodeValue shape r with
    | .ok v => complete v s
    | .error e => raise e s

/-- The end of a write: the error of the transaction, or the drain: the response is discarded whatever it is
(R102, R103). -/
def finishWrite : Exchange × State → State
  | (.failed place, s) => raise (.transport place) s
  | (.response _, s) => complete .unit s

/-- `GET(id, shape)` (spec/41_transactions.md R101), with its acceptance. -/
def readRegister (r : Reg) (s : State) : Host.Outcome State Fault Refusal :=
  accepted s fun s' => .next (finishRead r.shape (transact (encRead r.id) s'))

/-- `SET(id, payload)` (spec/41_transactions.md R102), inside an accepted command. -/
def sendWrite (r : Reg) (payload : Bytes) (s : State) : Host.Outcome State Fault Refusal :=
  match encWrite r.id payload with
  | some req => .next (finishWrite (transact req s))
  | none => .refused .payloadLength

/-- A write command without a constraint on its operand (R102). -/
def writeRegister (r : Reg) (payload : Bytes) (s : State) : Host.Outcome State Fault Refusal :=
  accepted s fun s' => sendWrite r payload s'

/-! ### The upload sequencer -/

/-- The frame the sequencer sends next, when an upload is in progress (spec/42_firmware_upload.md R151, R159): the
version frame, the begin frame, a chunk frame for each non-empty read of the image, then the end frame. -/
def nextFrame (s : State) : Option Instr :=
  match s.upload with
  | none => none
  | some u =>
    if s.created && s.busy && !s.awaiting && s.conn == .opened then
      match s.fwState with
      | .idle => some (.fwVersion u.major u.minor u.patch)
      | .versionSent => some .fwBegin
      | .uploading =>
        if (imgRead u.image s.imgOff chunkSize).isEmpty then some .fwEnd
        else some (.fwChunk (imgRead u.image s.imgOff chunkSize))
      | .finalized | .aborted => none
    else none

/-- Run `body` where `i` is the frame the sequencer sends next; anywhere else the frame is no command
(spec/30_encoding.md R66, spec/41_transactions.md R134). -/
def inSequence (i : Instr) (s : State) (body : State → Host.Outcome State Fault Refusal) :
    Host.Outcome State Fault Refusal :=
  if nextFrame s = some i then body s else .refused .outsideUpload

/-- `T(req)` of spec/42_firmware_upload.md R159: a transaction whose failure aborts the upload; its response is
discarded and the sequencer moves on as `advance` says. -/
def finishUpload (advance : State → State) : Exchange × State → State
  | (.failed place, s) => abortUpload (.transport place) s
  | (.response _, s) => advance s

/-- Send one upload frame (R153 to R157). -/
def uploadWrite (r : Reg) (payload : Bytes) (advance : State → State) (s : State) :
    Host.Outcome State Fault Refusal :=
  match encWrite r.id payload with
  | some req => .next (finishUpload advance (transact req s))
  | none => .refused .payloadLength

end Sys2Proof.Machine
end

