-- ==== Sys2Proof/Machine/Fw.lean ====
section
/-! DEFINITION. The meanings of the four upload frames (spec/42_firmware_upload.md R153 to R157), each a write
transaction of the sequencer. Forward transitions happen when the acknowledgment has been read (R151). -/

namespace Sys2Proof.Machine

/-- `FW_VERSION` frame, R153: `Idle` to `VersionSent`. -/
def execFwVersion (major minor patch : Byte) (s : State) : Host.Outcome State Fault Refusal :=
  inSequence (.fwVersion major minor patch) s
    (uploadWrite .fwData (versionPayload major minor patch) (State.setFw .versionSent))

/-- `FW_BEGIN` frame, R154: `VersionSent` to `Uploading`, `img_off` to 0. -/
def execFwBegin (s : State) : Host.Outcome State Fault Refusal :=
  inSequence .fwBegin s
    (uploadWrite .fwCtl [fwBeginByte] fun s' => (s'.setFw .uploading).setImgOff 0)

/-- `FW_CHUNK` frame, R155: the chunk has been read from the image, so `img_off` moves before the frame is sent;
`fw_state` stays `Uploading`. -/
def execFwChunk (c : Bytes) (s : State) : Host.Outcome State Fault Refusal :=
  inSequence (.fwChunk c) s fun s' =>
    uploadWrite .fwData (chunkPayload c) id (s'.setImgOff (s'.imgOff + c.length))

/-- `FW_END` frame, R157: `Uploading` to `Finalized`; the command ends. -/
def execFwEnd (s : State) : Host.Outcome State Fault Refusal :=
  inSequence .fwEnd s
    (uploadWrite .fwCtl [fwEndByte] fun s' => complete .unit ((s'.setFw .finalized).setUpload none))

end Sys2Proof.Machine
end

