-- ==== Sys2Proof/Machine/Get.lean ====
section
/-! DEFINITION. The meanings of the 16 read commands (spec/41_transactions.md R101, R104 to R133): one transaction and
the decoder of the register's wire shape. -/

namespace Sys2Proof.Machine

/-- `GET_ATT()`, R104. -/
def execGetAtt (s : State) : Host.Outcome State Fault Refusal :=
  readRegister .att s

/-- `GET_TEMP_AC()`, R106. -/
def execGetTempAc (s : State) : Host.Outcome State Fault Refusal :=
  readRegister .tempAc s

/-- `GET_TEMP_BD()`, R107. -/
def execGetTempBd (s : State) : Host.Outcome State Fault Refusal :=
  readRegister .tempBd s

/-- `GET_SP_AC()`, R108. -/
def execGetSpAc (s : State) : Host.Outcome State Fault Refusal :=
  readRegister .spAc s

/-- `GET_SP_BD()`, R110. -/
def execGetSpBd (s : State) : Host.Outcome State Fault Refusal :=
  readRegister .spBd s

/-- `GET_TCS()`, R112. -/
def execGetTcs (s : State) : Host.Outcome State Fault Refusal :=
  readRegister .tcs s

/-- `GET_HEAT_AC()`, R114. -/
def execGetHeatAc (s : State) : Host.Outcome State Fault Refusal :=
  readRegister .heatAc s

/-- `GET_HEAT_BD()`, R116. -/
def execGetHeatBd (s : State) : Host.Outcome State Fault Refusal :=
  readRegister .heatBd s

/-- `GET_VERSION()`, R119. -/
def execGetVersion (s : State) : Host.Outcome State Fault Refusal :=
  readRegister .version s

/-- `GET_PID_AC_KC()`, R120. -/
def execGetPidAcKc (s : State) : Host.Outcome State Fault Refusal :=
  readRegister .pidAcKc s

/-- `GET_PID_AC_TI()`, R122. -/
def execGetPidAcTi (s : State) : Host.Outcome State Fault Refusal :=
  readRegister .pidAcTi s

/-- `GET_PID_AC_TD()`, R124. -/
def execGetPidAcTd (s : State) : Host.Outcome State Fault Refusal :=
  readRegister .pidAcTd s

/-- `GET_PID_BD_KC()`, R126. -/
def execGetPidBdKc (s : State) : Host.Outcome State Fault Refusal :=
  readRegister .pidBdKc s

/-- `GET_PID_BD_TI()`, R128. -/
def execGetPidBdTi (s : State) : Host.Outcome State Fault Refusal :=
  readRegister .pidBdTi s

/-- `GET_PID_BD_TD()`, R130. -/
def execGetPidBdTd (s : State) : Host.Outcome State Fault Refusal :=
  readRegister .pidBdTd s

/-- `GET_MAC()`, R133. -/
def execGetMac (s : State) : Host.Outcome State Fault Refusal :=
  readRegister .mac s

end Sys2Proof.Machine
end

