-- ==== Sys2Proof/Machine/Response.lean ====
section
/-! DEFINITION. The meanings of the five response formats: the codec's decoders as commands of their own
(spec/40_codec.md R82 to R84, pure: R88) and the drain (spec/41_transactions.md R103). -/

namespace Sys2Proof.Machine

/-- `RSP_F64`: `DEC_FLOAT(r)`, R82. -/
def execRspF64 (r : Bytes) (s : State) : Host.Outcome State Fault Refusal :=
  .next (s.report (decodeValue .f64 r))

/-- `RSP_U8`: `DEC_BYTE(r)`, R83. -/
def execRspU8 (r : Bytes) (s : State) : Host.Outcome State Fault Refusal :=
  .next (s.report (decodeValue .u8 r))

/-- `RSP_B7`: `DEC_BYTES(r, 7)`, R84. -/
def execRspB7 (r : Bytes) (s : State) : Host.Outcome State Fault Refusal :=
  .next (s.report (decodeValue (.bytes verLen) r))

/-- `RSP_B17`: `DEC_BYTES(r, 17)`, R84. -/
def execRspB17 (r : Bytes) (s : State) : Host.Outcome State Fault Refusal :=
  .next (s.report (decodeValue (.bytes macLen) r))

/-- `ACK`: a response of any length and content is drained and ignored, R103. DESIGN CHOICE (log 36): offered as a command
of its own, the drain needs no open block, as the codec's operations need none (spec/40_codec.md R88). -/
def execAck (_r : Bytes) (s : State) : Host.Outcome State Fault Refusal :=
  .next (s.report (.ok .unit))

end Sys2Proof.Machine
end

