-- ==== Sys2Proof/Machine/Set.lean ====
section
/-! DEFINITION. The meanings of the 14 write commands (spec/41_transactions.md R102, R105 to R132): validation, one
transaction, and the acknowledgment drained and ignored. -/

namespace Sys2Proof.Machine

/-- `SET_ATT(v)`, R105: an operand outside the permitted set raises `InvalidArgument` before any transport event
(spec/70_reset_and_hazards.md R224). -/
def execSetAtt (v : Word64) (s : State) : Host.Outcome State Fault Refusal :=
  accepted s fun s' =>
    if attAccepted v then sendWrite .att (le64 v) s'
    else .next (raise (.invalidArgument .attenuation) s')

/-- `SET_TCS(v)`, R113: 0 and 1 are sent, every other integer is silently ignored. -/
def execSetTcs (v : Int) (s : State) : Host.Outcome State Fault Refusal :=
  accepted s fun s' =>
    if v = 0 ∨ v = 1 then sendWrite .tcs [BitVec.ofInt 8 v] s'
    else .next (complete .unit s')

/-- `RESET()`, R118: the device is reset, the block's own state is not. -/
def execReset (s : State) : Host.Outcome State Fault Refusal :=
  writeRegister .softReset [resetVal] s

/-- `SET_IP(s)`, R132: an operand longer than 16 bytes is refused (decision D12; log 11). -/
def execSetIp (a : Bytes) (s : State) : Host.Outcome State Fault Refusal :=
  if ipLen < a.length then .refused .ipTooLong
  else writeRegister .ip (ipPayload a) s

/-- `SET_SP_AC(v)`, R109. -/
def execSetSpAc (v : Word64) (s : State) : Host.Outcome State Fault Refusal :=
  writeRegister .spAc (le64 v) s

/-- `SET_SP_BD(v)`, R111. -/
def execSetSpBd (v : Word64) (s : State) : Host.Outcome State Fault Refusal :=
  writeRegister .spBd (le64 v) s

/-- `SET_HEAT_AC(v)`, R115. -/
def execSetHeatAc (v : Word64) (s : State) : Host.Outcome State Fault Refusal :=
  writeRegister .heatAc (le64 v) s

/-- `SET_HEAT_BD(v)`, R117. -/
def execSetHeatBd (v : Word64) (s : State) : Host.Outcome State Fault Refusal :=
  writeRegister .heatBd (le64 v) s

/-- `SET_PID_AC_KC(v)`, R121. -/
def execSetPidAcKc (v : Word64) (s : State) : Host.Outcome State Fault Refusal :=
  writeRegister .pidAcKc (le64 v) s

/-- `SET_PID_AC_TI(v)`, R123. -/
def execSetPidAcTi (v : Word64) (s : State) : Host.Outcome State Fault Refusal :=
  writeRegister .pidAcTi (le64 v) s

/-- `SET_PID_AC_TD(v)`, R125. -/
def execSetPidAcTd (v : Word64) (s : State) : Host.Outcome State Fault Refusal :=
  writeRegister .pidAcTd (le64 v) s

/-- `SET_PID_BD_KC(v)`, R127. -/
def execSetPidBdKc (v : Word64) (s : State) : Host.Outcome State Fault Refusal :=
  writeRegister .pidBdKc (le64 v) s

/-- `SET_PID_BD_TI(v)`, R129. -/
def execSetPidBdTi (v : Word64) (s : State) : Host.Outcome State Fault Refusal :=
  writeRegister .pidBdTi (le64 v) s

/-- `SET_PID_BD_TD(v)`, R131. -/
def execSetPidBdTd (v : Word64) (s : State) : Host.Outcome State Fault Refusal :=
  writeRegister .pidBdTd (le64 v) s

end Sys2Proof.Machine
end

