-- ==== Sys2Proof/Machine/Dispatch.lean ====
section
/-! DEFINITION. One arm per row of spec/opcode_table.json, in the table's order. -/

namespace Sys2Proof.Machine

def exec (i : Instr) (s : State) : Host.Outcome State Fault Refusal :=
  match i with
  | .getAtt => Sys2Proof.Machine.execGetAtt s
  | .getTempAc => Sys2Proof.Machine.execGetTempAc s
  | .getTempBd => Sys2Proof.Machine.execGetTempBd s
  | .getSpAc => Sys2Proof.Machine.execGetSpAc s
  | .getSpBd => Sys2Proof.Machine.execGetSpBd s
  | .getTcs => Sys2Proof.Machine.execGetTcs s
  | .getHeatAc => Sys2Proof.Machine.execGetHeatAc s
  | .getHeatBd => Sys2Proof.Machine.execGetHeatBd s
  | .getVersion => Sys2Proof.Machine.execGetVersion s
  | .getPidAcKc => Sys2Proof.Machine.execGetPidAcKc s
  | .getPidAcTi => Sys2Proof.Machine.execGetPidAcTi s
  | .getPidAcTd => Sys2Proof.Machine.execGetPidAcTd s
  | .getPidBdKc => Sys2Proof.Machine.execGetPidBdKc s
  | .getPidBdTi => Sys2Proof.Machine.execGetPidBdTi s
  | .getPidBdTd => Sys2Proof.Machine.execGetPidBdTd s
  | .getMac => Sys2Proof.Machine.execGetMac s
  | .setAtt v => Sys2Proof.Machine.execSetAtt v s
  | .setSpAc v => Sys2Proof.Machine.execSetSpAc v s
  | .setSpBd v => Sys2Proof.Machine.execSetSpBd v s
  | .setTcs v => Sys2Proof.Machine.execSetTcs v s
  | .setHeatAc v => Sys2Proof.Machine.execSetHeatAc v s
  | .setHeatBd v => Sys2Proof.Machine.execSetHeatBd v s
  | .reset => Sys2Proof.Machine.execReset s
  | .fwBegin => Sys2Proof.Machine.execFwBegin s
  | .fwEnd => Sys2Proof.Machine.execFwEnd s
  | .fwVersion major minor patch => Sys2Proof.Machine.execFwVersion major minor patch s
  | .fwChunk c => Sys2Proof.Machine.execFwChunk c s
  | .setPidAcKc v => Sys2Proof.Machine.execSetPidAcKc v s
  | .setPidAcTi v => Sys2Proof.Machine.execSetPidAcTi v s
  | .setPidAcTd v => Sys2Proof.Machine.execSetPidAcTd v s
  | .setPidBdKc v => Sys2Proof.Machine.execSetPidBdKc v s
  | .setPidBdTi v => Sys2Proof.Machine.execSetPidBdTi v s
  | .setPidBdTd v => Sys2Proof.Machine.execSetPidBdTd v s
  | .setIp a => Sys2Proof.Machine.execSetIp a s
  | .rspF64 r => Sys2Proof.Machine.execRspF64 r s
  | .rspU8 r => Sys2Proof.Machine.execRspU8 r s
  | .rspB7 r => Sys2Proof.Machine.execRspB7 r s
  | .rspB17 r => Sys2Proof.Machine.execRspB17 r s
  | .ack r => Sys2Proof.Machine.execAck r s

end Sys2Proof.Machine
end

