-- ==== Sys2Proof/Machine/Commands.lean ====
section
/-! DEFINITION. The commands a host presents, those that are rows of the opcode table through `exec` and those that have
no row: the codec's encoders (spec/40_codec.md R80 to R85), `FW_UPLOAD` (spec/42_firmware_upload.md R150), `OPEN` and
`CLOSE` (spec/70_reset_and_hazards.md R210, R212). -/

namespace Sys2Proof.Machine

/-- A pure operation: its result, whatever the state of the block. For the five operations of the codec that is
spec/40_codec.md R88; for `PACK_F64`, `UNPACK_F64` and `PARSE_VERSION` it is a DESIGN CHOICE (log 36). -/
def runPure (r : Result) (s : State) : Host.Outcome State Fault Refusal :=
  .next (s.report r)

/-- `ENC_WRITE(reg, payload)` as a command (R81): no result for a payload length without a frame (log 12). -/
def runEncWrite (reg : Byte) (payload : Bytes) (s : State) : Host.Outcome State Fault Refusal :=
  match encWrite reg payload with
  | some b => runPure (.ok (.bytes b)) s
  | none => .refused .payloadLength

/-- `UNPACK_F64(b)` as a command (R85), for an 8-byte operand (log 12). DESIGN CHOICE (log 36): it is offered as a command,
and needs no open block. -/
def runUnpack (b : Bytes) (s : State) : Host.Outcome State Fault Refusal :=
  if b.length = 8 then runPure (.ok (.f64 (unle64 b))) s else .refused .payloadLength

/-- `FW_UPLOAD(version, image)`, its acceptance (spec/42_firmware_upload.md R150, R159, R162): the sequencer goes to
`Idle` whatever it held, the version string is parsed before anything is sent, and from here the sequencer sends the
frames one by one (log 1). -/
def runFwUpload (version : Text) (image : Bytes) (s : State) : Host.Outcome State Fault Refusal :=
  accepted s fun s' =>
    match parseVersion version with
    | .error e => .next (raise e (s'.setFw .idle))
    | .ok (major, minor, patch) =>
      .next ((s'.setFw .idle).setUpload
        (some { major := major, minor := minor, patch := patch, image := image }))

/-- What a successful construction leaves (spec/70_reset_and_hazards.md R210, spec/10_state.md R23): every element of
the block at its reset value, and the three construction calls in the history (spec/20_memory.md R37). -/
def constructed (host : Text) (port : Nat) (s : State) : State :=
  State.record (.setTimeout timeoutSeconds)
    (State.record .setNoDelay
      { s with conn := .opened, awaiting := false, busy := false, fwState := .idle, imgOff := 0,
               cfg := Cfg.opened host port, created := true, upload := none })

/-- `OPEN(host, port)` (spec/70_reset_and_hazards.md R210): where the connect fails no block comes into being
(decision D17). -/
def runOpen (host : Text) (port : Nat) (s : State) : Host.Outcome State Fault Refusal :=
  if s.created then .refused .alreadyOpen
  else
    .next (match s.connectAnswer with
      | .ok => (constructed host port (connectStep host port s)).report (.ok .unit)
      | .fail => (connectStep host port s).report (.error (.transport .connect)))

/-- `CLOSE()` (spec/70_reset_and_hazards.md R212): closes once, and does nothing after (decision D16). -/
def runClose (s : State) : Host.Outcome State Fault Refusal :=
  if s.created then
    if s.busy || s.awaiting then .refused .busy
    else
      match s.conn with
      | .opened => .next (((s.record .close).setConn .closed).report (.ok .unit))
      | .closed => .next (s.report (.ok .unit))
  else .refused .noBlock

/-- A frame as a command, the generic entry of spec/41_transactions.md R134: the command it encodes, else refused before
any transport event (log 21). -/
def runFrame (b : Bytes) (s : State) : Host.Outcome State Fault Refusal :=
  match decodeRequest s.fwState b with
  | .ok i => exec i s
  | .error why => .refused (.badFrame why)

/-- One command of the host. DESIGN CHOICE (log 36): `PACK_F64`, `UNPACK_F64` and `PARSE_VERSION`, offered as commands of
their own, need no open block; the spec leaves that open beside spec/40_codec.md R85, R88 and
spec/70_reset_and_hazards.md R220. -/
def runCommand (c : Command) (s : State) : Host.Outcome State Fault Refusal :=
  match c with
  | .call i => exec i s
  | .frame b => runFrame b s
  | .encRead reg => runPure (.ok (.bytes (encRead reg))) s
  | .encWrite reg payload => runEncWrite reg payload s
  | .packF64 v => runPure (.ok (.bytes (le64 v))) s
  | .unpackF64 b => runUnpack b s
  | .decBytes r n => runPure (decodeValue (.bytes n) r) s
  | .parseVersion version =>
    runPure (resultOf (fun v => Value.version v.1 v.2.1 v.2.2) (parseVersion version)) s
  | .fwUpload version image => runFwUpload version image s
  | .openBlock host port => runOpen host port s
  | .closeBlock => runClose s

/-- A step while an upload is in progress: the sequencer's next frame, and no command of the host
(spec/42_firmware_upload.md R163). -/
def stepUpload (s : State) : Host.Outcome State Fault Refusal :=
  match nextFrame s with
  | some i => exec i s
  | none => .fault .lostUpload

/-- A step while no command runs: the next command of the host; without one the block does nothing
(spec/70_reset_and_hazards.md R211; log 28). -/
def stepCommand (s : State) : Host.Outcome State Fault Refusal :=
  match s.pending with
  | [] => .next s
  | c :: rest => runCommand c { s with pending := rest }

/-- Put `c` before the commands the host has still to present, with no upload in progress (log 19). -/
def placeCommand (c : Command) (s : State) : State :=
  { s with pending := c :: s.pending, busy := false, upload := none }

/-- Put an upload in progress, so that the sequencer stands at `st` with the given operands and has read nothing of the
image (log 19). -/
def placeUpload (st : FwState) (u : Upload) (s : State) : State :=
  { s with busy := true, fwState := st, imgOff := 0, upload := some u }

/-- Place one instruction where the next step takes it: a request as its frame `b`, a response with its bytes, and an
upload frame as the frame of an upload in progress (log 19). -/
def placeInstr (i : Instr) (b : Bytes) (s : State) : State :=
  match i with
  | .fwVersion major minor patch =>
    placeUpload .idle { major := major, minor := minor, patch := patch, image := [] } s
  | .fwBegin => placeUpload .versionSent { major := 0, minor := 0, patch := 0, image := [] } s
  | .fwChunk c => placeUpload .uploading { major := 0, minor := 0, patch := 0, image := c } s
  | .fwEnd => placeUpload .uploading { major := 0, minor := 0, patch := 0, image := [] } s
  | .rspF64 _ | .rspU8 _ | .rspB7 _ | .rspB17 _ | .ack _ => placeCommand (.call i) s
  | .getAtt | .getTempAc | .getTempBd | .getSpAc | .getSpBd | .getTcs | .getHeatAc | .getHeatBd | .getVersion
  | .getPidAcKc | .getPidAcTi | .getPidAcTd | .getPidBdKc | .getPidBdTi | .getPidBdTd | .getMac
  | .setAtt _ | .setSpAc _ | .setSpBd _ | .setTcs _ | .setHeatAc _ | .setHeatBd _ | .reset
  | .setPidAcKc _ | .setPidAcTi _ | .setPidAcTd _ | .setPidBdKc _ | .setPidBdTi _ | .setPidBdTd _ | .setIp _ =>
    placeCommand (.frame b) s

end Sys2Proof.Machine
end

