-- ==== Sys2Proof/Machine/Step.lean ====
section
/-! DEFINITION. One step of the machine: one command that needs no upload, or one frame of the upload in progress
(log 1). -/

namespace Sys2Proof.Machine

/-- One step: while a command runs it is an upload, and its sequencer sends the next frame; otherwise the next command
of the host is accepted (spec/10_state.md R18, spec/42_firmware_upload.md R163). -/
def step (s : State) : Host.Outcome State Fault Refusal :=
  if s.busy then stepUpload s else stepCommand s

/-- `s` with the instruction of the `nbits` bits `w` where the next step takes its instruction (log 19). Bits that are
no instruction are placed as they are, as a frame the next step refuses by name. -/
def State.withFetchWord (s : State) (nbits w : Nat) : State :=
  match decodeTableWord nbits w with
  | some i => placeInstr i ((tableFrame nbits w).take (frameLength (tableFrame nbits w))) s
  | none => placeCommand (.frame ((tableFrame nbits w).take (frameLength (tableFrame nbits w)))) s

end Sys2Proof.Machine
end

