-- ==== Sys2Proof/Safety.lean ====
section
/-! DEFINITION. What a sound state and a sound run are, in the terms the claims use: readiness for a command, the
hardwired configuration, half-duplex histories (spec/20_memory.md R43), the frames the block may send
(spec/30_encoding.md R62), and the invariant of every step. -/

namespace Sys2Proof.Safety

open Sys2Proof.Machine

/-- The block exists, its connection is open, and no command runs: the precondition of every command that uses the
connection (spec/41_transactions.md R134). -/
abbrev Ready (s : State) : Prop :=
  s.created = true ∧ s.conn = .opened ∧ s.busy = false ∧ s.awaiting = false

/-- An upload is in progress and `i` is the frame its sequencer sends next (spec/42_firmware_upload.md R151). -/
abbrev SendsNext (s : State) (i : Instr) : Prop :=
  nextFrame s = some i

/-- The fields of the configuration that are hardwired (spec/10_state.md R19). -/
abbrev Hardwired (c : Cfg) : Prop :=
  c.timeout = 5 ∧ c.nodelay = true ∧ c.rxMax = 1024

/-- Follow one event with the knowledge whether a request is unanswered: `none` where the event breaks the half-duplex
order (spec/20_memory.md R43). A failed send leaves nothing to answer (spec/41_transactions.md R100). -/
def afterEvent : Bool → Event → Option Bool
  | false, .send _ .ok => some true
  | false, .send _ .fail => some false
  | true, .recv _ _ => some false
  | true, .send _ _ => none
  | false, .recv _ _ => none
  | open_, .connect _ _ _ => some open_
  | open_, .setNoDelay => some open_
  | open_, .setTimeout _ => some open_
  | open_, .close => some open_

/-- Follow a history from its oldest event: whether a request is unanswered at its end, `none` where somewhere a request
was sent before the one before it was answered, or a receive answered no request. -/
def unanswered (h : List Event) : Option Bool :=
  h.foldlM afterEvent false

/-- The frames of spec/30_encoding.md R62: those of a well-formed request. -/
def Emittable (b : Bytes) : Prop :=
  ∃ i : Instr, i.isRequest = true ∧ WellFormed i = true ∧ encode i = b

/-- Every frame given to the transport is one of R62. -/
def OnlyListedFrames (h : List Event) : Prop :=
  ∀ b a, Event.send b a ∈ h → Emittable b

/-- Every receive asked for 1024 bytes and returned at most that many (spec/20_memory.md R34). -/
def BoundedReceives (h : List Event) : Prop :=
  ∀ n a, Event.recv n a ∈ h → n = 1024 ∧ ∀ r, a = .ok r → r.length ≤ 1024

/-- The invariant of every step. -/
structure Inv (s : State) : Prop where
  /-- `awaiting` is false whenever a step has ended (spec/10_state.md R17). -/
  awaiting : s.awaiting = false
  /-- The hardwired configuration (R19). -/
  hardwired : Hardwired s.cfg
  /-- A command that runs on is an upload, and only such a one holds operands (R10, R18). -/
  busy_iff : s.busy = true ↔ s.upload.isSome = true
  /-- An upload runs on an open connection, in one of the three states before its end (R14, R16). -/
  running : s.busy = true → s.created = true ∧ s.conn = .opened ∧
    (s.fwState = .idle ∨ s.fwState = .versionSent ∨ s.fwState = .uploading)
  /-- `VersionSent` and `Uploading` are held only while a command runs (R14). -/
  resting : s.busy = false → s.fwState = .idle ∨ s.fwState = .finalized ∨ s.fwState = .aborted
  /-- `img_off` stays within the image (R10, R15). -/
  offset : ∀ u, s.upload = some u → s.fwState = .uploading → s.imgOff ≤ u.image.length
  /-- Only a block that exists has a connection (R16, R23). -/
  exists_of_open : s.conn = .opened → s.created = true
  /-- The history is half-duplex and nothing is unanswered (spec/20_memory.md R43). -/
  halfDuplex : unanswered s.history = some false
  /-- Only frames of the opcode map were sent (spec/30_encoding.md R62). -/
  listed : OnlyListedFrames s.history
  /-- Receives are bounded (spec/20_memory.md R34). -/
  bounded : BoundedReceives s.history

/-- The two events of an answered request (spec/41_transactions.md R100). -/
def answered (frame r : Bytes) : List Event :=
  [.send frame .ok, .recv 1024 (.ok r)]

/-- The chunk frames of an image from its byte `off` on, `n` of them (spec/42_firmware_upload.md R156). -/
def chunkFrames (image : Bytes) : Nat → Nat → List Bytes
  | _, 0 => []
  | off, n + 1 => writeFrame .fwData (chunkPayload (imgRead image off chunkSize)) :: chunkFrames image (off + chunkSize) n

/-- How many chunk frames an image has: `ceil(L / 128)` (spec/42_firmware_upload.md R156). -/
def chunkCount (image : Bytes) : Nat :=
  (image.length + 127) / 128

/-- All frames of an upload, in order (spec/42_firmware_upload.md R159). -/
def uploadFrames (u : Upload) : List Bytes :=
  [writeFrame .fwData (versionPayload u.major u.minor u.patch), writeFrame .fwCtl [fwBeginByte]] ++
    chunkFrames u.image 0 (chunkCount u.image) ++ [writeFrame .fwCtl [fwEndByte]]

/-- The events of a sequence of requests, each answered by the response beside it. -/
def answeredAll (frames responses : List Bytes) : List Event :=
  (frames.zip responses).flatMap fun p => answered p.1 p.2

/-! ### Groups of instructions of one shape, with the bytes the spec gives them -/

/-- The read commands of binary64 registers, each with its register id (spec/30_encoding.md R62). -/
def floatReads : List (Instr × Byte) :=
  [(.getAtt, 0x00), (.getTempAc, 0x01), (.getTempBd, 0x02), (.getSpAc, 0x03), (.getSpBd, 0x04),
   (.getHeatAc, 0x06), (.getHeatBd, 0x07), (.getPidAcKc, 0x0C), (.getPidAcTi, 0x0D), (.getPidAcTd, 0x0E),
   (.getPidBdKc, 0x0F), (.getPidBdTi, 0x10), (.getPidBdTd, 0x11)]

/-- All read commands, each with its register id and the wire shape of its value (spec/30_encoding.md R55, R62). -/
def reads : List (Instr × Byte × Shape) :=
  floatReads.map (fun p => (p.1, p.2, Shape.f64)) ++
    [(.getTcs, 0x05, .u8), (.getVersion, 0x0B, .bytes 7), (.getMac, 0x13, .bytes 17)]

/-- The least length of a response of a wire shape (spec/30_encoding.md R55). -/
def leastLength : Shape → Nat
  | .f64 => 11
  | .u8 => 4
  | .bytes n => 3 + n

/-- The write commands of binary64 registers without a constraint, on one operand, each with its register id
(spec/30_encoding.md R62). -/
def floatWrites (v : Word64) : List (Instr × Byte) :=
  [(.setSpAc v, 0x03), (.setSpBd v, 0x04), (.setHeatAc v, 0x06), (.setHeatBd v, 0x07), (.setPidAcKc v, 0x0C),
   (.setPidAcTi v, 0x0D), (.setPidAcTd v, 0x0E), (.setPidBdKc v, 0x0F), (.setPidBdTi v, 0x10), (.setPidBdTd v, 0x11)]

/-- Whether the instruction is one of the 14 write commands of a host. -/
def isHostWrite : Instr → Bool
  | .setAtt _ | .setSpAc _ | .setSpBd _ | .setTcs _ | .setHeatAc _ | .setHeatBd _ | .reset
  | .setPidAcKc _ | .setPidAcTi _ | .setPidAcTd _ | .setPidBdKc _ | .setPidBdTi _ | .setPidBdTd _ | .setIp _ => true
  | .getAtt | .getTempAc | .getTempBd | .getSpAc | .getSpBd | .getTcs | .getHeatAc | .getHeatBd | .getVersion
  | .getPidAcKc | .getPidAcTi | .getPidAcTd | .getPidBdKc | .getPidBdTi | .getPidBdTd | .getMac
  | .fwBegin | .fwEnd | .fwVersion _ _ _ | .fwChunk _
  | .rspF64 _ | .rspU8 _ | .rspB7 _ | .rspB17 _ | .ack _ => false

/-- Whether the instruction is one of the 30 accessors: the 16 reads and the 14 writes of a host
(spec/41_transactions.md). -/
def isAccessor (i : Instr) : Bool :=
  isHostWrite i || reads.any fun p => p.1 == i

/-- Whether the instruction is one of the four upload frames. -/
def isUploadFrame : Instr → Bool
  | .fwBegin | .fwEnd | .fwVersion _ _ _ | .fwChunk _ => true
  | .getAtt | .getTempAc | .getTempBd | .getSpAc | .getSpBd | .getTcs | .getHeatAc | .getHeatBd | .getVersion
  | .getPidAcKc | .getPidAcTi | .getPidAcTd | .getPidBdKc | .getPidBdTi | .getPidBdTd | .getMac
  | .setAtt _ | .setSpAc _ | .setSpBd _ | .setTcs _ | .setHeatAc _ | .setHeatBd _ | .reset
  | .setPidAcKc _ | .setPidAcTi _ | .setPidAcTd _ | .setPidBdKc _ | .setPidBdTi _ | .setPidBdTd _ | .setIp _
  | .rspF64 _ | .rspU8 _ | .rspB7 _ | .rspB17 _ | .ack _ => false

/-- The pattern of k / 2 by the layout of binary64: for k with leading power 2^e the exponent field is 1022 + e and the
fraction is k less that power, aligned to 52 bits (spec/00_scope.md R6, spec/93_implementation_defined.md K1). -/
def halfStep (k : Nat) : Word64 :=
  if k = 0 then 0 else BitVec.ofNat 64 ((1022 + Nat.log2 k) * 2 ^ 52 + (k - 2 ^ Nat.log2 k) * 2 ^ (52 - Nat.log2 k))

/-! ### What a command leaves -/

/-- `t` is `s` after a command whose transport events were `events` and whose result was `res`: everything else of the
block and of the host's side is as it was; the environment's lists of answers and the count of free answers moved on. -/
def Ended (s t : State) (events : List Event) (res : Result) : Prop :=
  t = { s with history := s.history ++ events, results := s.results ++ [res], sendAnswers := s.sendAnswers.tail,
               recvAnswers := t.recvAnswers, drawn := t.drawn }

/-- The three ways one transaction with the request `frame` goes, as its events: the send fails; the send succeeds and
the receive fails; or a response of at most 1024 bytes is read (spec/41_transactions.md R100). -/
inductive Went (frame : Bytes) : List Event → Exchange → Prop where
  | sendFailed : Went frame [.send frame .fail] (.failed .send)
  | recvFailed : Went frame [.send frame .ok, .recv 1024 .fail] (.failed .recv)
  | response (r : Bytes) (h : r.length ≤ 1024) : Went frame (answered frame r) (.response r)

/-- How the one transaction with the request `frame` goes from `s`, by the environment's answers alone
(spec/41_transactions.md R100). -/
def outcomeOf (frame : Bytes) (s : State) : Exchange :=
  match s.sendAnswer with
  | .fail => .failed .send
  | .ok =>
    match (sendStep frame s).recvAnswer with
    | .fail => .failed .recv
    | .ok r => .response r

/-- The state in which a step of an upload ends it because of a transport error (spec/42_firmware_upload.md R158,
spec/60_exceptions.md R188), `off` being `img_off`. -/
def AbortedFrom (s t : State) (events : List Event) (place : Place) (off : Nat) : Prop :=
  t = { s with busy := false, upload := none, fwState := .aborted, imgOff := off, history := s.history ++ events,
               results := s.results ++ [.error (.transport place)], sendAnswers := s.sendAnswers.tail,
               recvAnswers := t.recvAnswers, drawn := t.drawn }

end Sys2Proof.Safety
end

