-- ==== Sys2Proof/Certificates/Slice0/Obligations.lean ====
section
/-! DEFINITION. The statements for the provers, read from the numbered rules of spec/. -/

open Sys2Proof Sys2Proof.Machine Sys2Proof.Safety

/-! ### The codec -/

/-- spec/40_codec.md R80, spec/30_encoding.md R51: the read request is the four fixed bytes, and the codec's command
returns them in any state, changing nothing else. -/
def Obligations.ReadRequestIsFourFixedBytes : Prop :=
  ∀ (reg : Byte) (s : State),
    encRead reg = [0x10, 0x00, 0x01, reg] ∧ (encRead reg).length = 4 ∧
    runCommand (.encRead reg) s = .next { s with results := s.results ++ [.ok (.bytes [0x10, 0x00, 0x01, reg])] }

/-- spec/30_encoding.md R52: whatever frame the write encoder gives is the class byte, 0x00, a length byte, the register
id and the payload, 4 bytes longer than the payload. -/
def Obligations.WriteRequestLayout : Prop :=
  ∀ (reg : Byte) (payload b : Bytes), encWrite reg payload = some b →
    (∃ len : Byte, b = [0x20, 0x00, len, reg] ++ payload) ∧ b.length = 4 + payload.length

/-- spec/30_encoding.md R53, the three literal rows for writes: payloads of 1, 8 and 128 bytes. The row for 16 bytes is
decision D2 (log 7) and stands in `WriteEncoderSixteenAndRefusals`. -/
def Obligations.WriteEncoderLiteralLengths : Prop :=
  ∀ (reg : Byte) (payload : Bytes),
    (payload.length = 1 → encWrite reg payload = some ([0x20, 0x00, 0x02, reg] ++ payload)) ∧
    (payload.length = 8 → encWrite reg payload = some ([0x20, 0x00, 0x09, reg] ++ payload)) ∧
    (payload.length = 128 → encWrite reg payload = some ([0x20, 0x00, 0x81, reg] ++ payload))

/-- spec/92_eei_decisions.md D2, the spec's own choice (log 7, log 12): length byte 0x11 for 16 bytes; a frame for 1, 8,
16 and 128 bytes and for no other length, and the codec's command is then refused. -/
def Obligations.WriteEncoderSixteenAndRefusals : Prop :=
  ∀ (reg : Byte) (payload : Bytes) (s : State),
    (payload.length = 16 → encWrite reg payload = some ([0x20, 0x00, 0x11, reg] ++ payload)) ∧
    (payload.length ∉ [1, 8, 16, 128] →
      encWrite reg payload = none ∧ runCommand (.encWrite reg payload) s = .refused .payloadLength) ∧
    (∀ b, encWrite reg payload = some b →
      runCommand (.encWrite reg payload) s = .next { s with results := s.results ++ [.ok (.bytes b)] })

/-- spec/40_codec.md R85: packing and unpacking a binary64 pattern are inverse to one another and change no bit. As
commands they change nothing but the results; that they are commands of a host and complete in every state is the model's
choice (log 36), and so is the operand of 8 bytes alone (log 12). -/
def Obligations.PackUnpackFloatRoundTrip : Prop :=
  (∀ w : Word64, (le64 w).length = 8 ∧ unle64 (le64 w) = w) ∧
  (∀ b : Bytes, b.length = 8 → le64 (unle64 b) = b) ∧
  (∀ (w : Word64) (s : State),
    runCommand (.packF64 w) s = .next { s with results := s.results ++ [.ok (.bytes (le64 w))] }) ∧
  (∀ (b : Bytes) (s : State), b.length = 8 →
    runCommand (.unpackF64 b) s = .next { s with results := s.results ++ [.ok (.f64 (unle64 b))] })

/-- spec/40_codec.md R89: the payload of a float write, behind any three bytes, decodes to the float. -/
def Obligations.CodecFloatRoundTrip : Prop :=
  ∀ (w : Word64) (reg p0 p1 p2 : Byte), ∃ b, encWrite reg (le64 w) = some b ∧
    decFloat ([p0, p1, p2] ++ b.drop 4) = .ok w

/-- spec/30_encoding.md R60: a chunk of 1 to 128 bytes is padded with 0xFF to 128, and an empty chunk is never the next
frame of an upload: it ends the loop, and the end frame is next. -/
def Obligations.ChunkPayloadIsPaddedWithOnes : Prop :=
  (∀ c : Bytes, 1 ≤ c.length → c.length ≤ 128 →
    chunkPayload c = c ++ List.replicate (128 - c.length) 0xFF ∧ (chunkPayload c).length = 128) ∧
  (∀ s : State, nextFrame s ≠ some (.fwChunk [])) ∧
  (∀ (s : State) (u : Upload), s.created = true → s.conn = .opened → s.busy = true → s.awaiting = false →
    s.upload = some u → s.fwState = .uploading → imgRead u.image s.imgOff 128 = [] → nextFrame s = some .fwEnd)

/-- spec/30_encoding.md R59: the payload of the version frame, and the frame of 132 bytes. -/
def Obligations.VersionPayloadIsZeroPadded : Prop :=
  ∀ major minor patch : Byte,
    versionPayload major minor patch = [major, minor, patch] ++ List.replicate 125 0x00 ∧
    (versionPayload major minor patch).length = 128 ∧
    encode (.fwVersion major minor patch) =
      [0x20, 0x00, 0x81, 0x0A, major, minor, patch] ++ List.replicate 125 0x00 ∧
    (encode (.fwVersion major minor patch)).length = 132

/-- spec/42_firmware_upload.md R152 with the spec's grammar (decisions D9, D10; log 13): three runs of digits between
two separators give the three bytes, unless one of them is above 255. -/
def Obligations.ThreeDecimalComponentsParse : Prop :=
  ∀ (a b c : Text) (x y : Char), isVersionSeparator x = true → isVersionSeparator y = true →
    isDecimal a = true → isDecimal b = true → isDecimal c = true →
    parseVersion (a ++ x :: (b ++ y :: c)) =
      if decimalValue a ≤ 255 ∧ decimalValue b ≤ 255 ∧ decimalValue c ≤ 255 then
        .ok (BitVec.ofNat 8 (decimalValue a), BitVec.ofNat 8 (decimalValue b), BitVec.ofNat 8 (decimalValue c))
      else .error (.invalidArgument .versionComponent)

/-- spec/42_firmware_upload.md R152 with the spec's grammar (decision D9; log 13): a string without exactly two
separators is a format error, and so is one of whose three parts one is not a non-empty run of digits. -/
def Obligations.OtherVersionStringsAreFormatErrors : Prop :=
  (∀ v : Text, v.countP isVersionSeparator ≠ 2 → parseVersion v = .error .invalidVersionFormat) ∧
  (∀ (a b c : Text) (x y : Char), isVersionSeparator x = true → isVersionSeparator y = true →
    a.any isVersionSeparator = false → b.any isVersionSeparator = false → c.any isVersionSeparator = false →
    ¬ (isDecimal a = true ∧ isDecimal b = true ∧ isDecimal c = true) →
    parseVersion (a ++ x :: (b ++ y :: c)) = .error .invalidVersionFormat)

/-- spec/41_transactions.md R105: the permitted attenuations are the patterns of k / 2 for k = 0 to 63, 64 of them. -/
def Obligations.PermittedAttenuationsAreHalfSteps : Prop :=
  attSet = (List.range 64).map halfStep ∧ attSet.Nodup

/-! ### The five response formats as instructions -/

/-- spec/40_codec.md R82 to R84, R88: the four decoders as instructions run in every state, whatever the connection,
and change nothing but the results: the value where the response is long enough, else `ShortResponse` with the bytes
needed and received. -/
def Obligations.ResponseDecodersComplete : Prop :=
  ∀ (r : Bytes) (s : State),
    exec (.rspF64 r) s = .next { s with results := s.results ++
      [if r.length < 11 then .error (.shortResponse 11 r.length) else .ok (.f64 (unle64 ((r.drop 3).take 8)))] } ∧
    exec (.rspU8 r) s = .next { s with results := s.results ++
      [if r.length < 4 then .error (.shortResponse 4 r.length) else .ok (.u8 (r.getD 3 0))] } ∧
    exec (.rspB7 r) s = .next { s with results := s.results ++
      [if r.length < 10 then .error (.shortResponse 10 r.length) else .ok (.bytes ((r.drop 3).take 7))] } ∧
    exec (.rspB17 r) s = .next { s with results := s.results ++
      [if r.length < 20 then .error (.shortResponse 20 r.length) else .ok (.bytes ((r.drop 3).take 17))] }

/-- spec/41_transactions.md R103 (decision D5; log 23): the drain accepts a response of any length and content. That it
runs in every state, as a command of its own, is the model's choice (log 36). -/
def Obligations.AcknowledgmentIsDrained : Prop :=
  ∀ (r : Bytes) (s : State), exec (.ack r) s = .next { s with results := s.results ++ [.ok .unit] }

/-! ### Reads -/

/-- spec/41_transactions.md R101, R104 to R130: each read of a binary64 register sends its four-byte request, reads one
response, and returns the eight bytes behind the prefix as the float's pattern; nothing else of the state changes. -/
def Obligations.FloatReadsReturnTheValue : Prop :=
  ∀ p ∈ floatReads, ∀ (s : State) (r : Bytes) (sa : List Reply) (ra : List RecvAnswer),
    Ready s → s.cfg.rxMax = 1024 → s.sendAnswers = .ok :: sa → s.recvAnswers = .ok r :: ra →
    11 ≤ r.length → r.length ≤ 1024 →
    exec p.1 s = .next { s with
      sendAnswers := sa, recvAnswers := ra,
      history := s.history ++ [.send [0x10, 0x00, 0x01, p.2] .ok, .recv 1024 (.ok r)],
      results := s.results ++ [.ok (.f64 (unle64 ((r.drop 3).take 8)))] }

/-- spec/41_transactions.md R112: the temperature-control status is the byte behind the prefix. -/
def Obligations.StatusReadReturnsTheByte : Prop :=
  ∀ (s : State) (r : Bytes) (sa : List Reply) (ra : List RecvAnswer),
    Ready s → s.cfg.rxMax = 1024 → s.sendAnswers = .ok :: sa → s.recvAnswers = .ok r :: ra →
    4 ≤ r.length → r.length ≤ 1024 →
    exec .getTcs s = .next { s with
      sendAnswers := sa, recvAnswers := ra,
      history := s.history ++ [.send [0x10, 0x00, 0x01, 0x05] .ok, .recv 1024 (.ok r)],
      results := s.results ++ [.ok (.u8 (r.getD 3 0))] }

/-- spec/41_transactions.md R119, R133: the version is the 7 and the MAC address the 17 bytes behind the prefix. -/
def Obligations.IdentifierReadsReturnTheBytes : Prop :=
  ∀ (s : State) (r : Bytes) (sa : List Reply) (ra : List RecvAnswer),
    Ready s → s.cfg.rxMax = 1024 → s.sendAnswers = .ok :: sa → s.recvAnswers = .ok r :: ra → r.length ≤ 1024 →
    (10 ≤ r.length →
      exec .getVersion s = .next { s with
        sendAnswers := sa, recvAnswers := ra,
        history := s.history ++ [.send [0x10, 0x00, 0x01, 0x0B] .ok, .recv 1024 (.ok r)],
        results := s.results ++ [.ok (.bytes ((r.drop 3).take 7))] }) ∧
    (20 ≤ r.length →
      exec .getMac s = .next { s with
        sendAnswers := sa, recvAnswers := ra,
        history := s.history ++ [.send [0x10, 0x00, 0x01, 0x13] .ok, .recv 1024 (.ok r)],
        results := s.results ++ [.ok (.bytes ((r.drop 3).take 17))] })

/-- spec/41_transactions.md R100, R101; spec/60_exceptions.md R183, R184, R188: how each of the 16 reads ends with an
error: a failed send is followed by no receive, a failed receive by no decoding, and a response shorter than the
register's shape needs is `ShortResponse` after the full round trip. -/
def Obligations.ReadsEndWithTheirErrors : Prop :=
  ∀ p ∈ reads, ∀ (s : State) (sa : List Reply) (ra : List RecvAnswer), Ready s → s.cfg.rxMax = 1024 →
    (s.sendAnswers = .fail :: sa →
      exec p.1 s = .next { s with
        sendAnswers := sa, history := s.history ++ [.send [0x10, 0x00, 0x01, p.2.1] .fail],
        results := s.results ++ [.error (.transport .send)] }) ∧
    (s.sendAnswers = .ok :: sa → s.recvAnswers = .fail :: ra →
      exec p.1 s = .next { s with
        sendAnswers := sa, recvAnswers := ra,
        history := s.history ++ [.send [0x10, 0x00, 0x01, p.2.1] .ok, .recv 1024 .fail],
        results := s.results ++ [.error (.transport .recv)] }) ∧
    (∀ r, s.sendAnswers = .ok :: sa → s.recvAnswers = .ok r :: ra → r.length < leastLength p.2.2 →
      exec p.1 s = .next { s with
        sendAnswers := sa, recvAnswers := ra,
        history := s.history ++ [.send [0x10, 0x00, 0x01, p.2.1] .ok, .recv 1024 (.ok r)],
        results := s.results ++ [.error (.shortResponse (leastLength p.2.2) r.length)] })

/-- spec/41_transactions.md R104 to R130, for every behaviour of the environment (spec/20_memory.md R38): a read of a
binary64 register completes with exactly one result, its transaction goes one of the three ways of R100, and the result
is the transport error, `ShortResponse` exactly below 11 bytes, or the pattern of bytes 3 to 10; of the block's own
state nothing has changed. -/
def Obligations.FloatReadsEndAsTheirRulesSay : Prop :=
  ∀ p ∈ floatReads, ∀ s : State, Ready s → s.cfg.rxMax = 1024 →
    ∃ t events x, exec p.1 s = .next t ∧ Went [0x10, 0x00, 0x01, p.2] events x ∧
      x = outcomeOf [0x10, 0x00, 0x01, p.2] s ∧
      Ended s t events (match x with
        | .failed place => .error (.transport place)
        | .response r =>
          if r.length < 11 then .error (.shortResponse 11 r.length)
          else .ok (.f64 (unle64 ((r.drop 3).take 8))))

/-- spec/41_transactions.md R112, R119, R133, for every behaviour of the environment: the same of the three reads of
other shapes. -/
def Obligations.OtherReadsEndAsTheirRulesSay : Prop :=
  ∀ s : State, Ready s → s.cfg.rxMax = 1024 →
    (∃ t events x, exec .getTcs s = .next t ∧ Went [0x10, 0x00, 0x01, 0x05] events x ∧
      x = outcomeOf [0x10, 0x00, 0x01, 0x05] s ∧
      Ended s t events (match x with
        | .failed place => .error (.transport place)
        | .response r => if r.length < 4 then .error (.shortResponse 4 r.length) else .ok (.u8 (r.getD 3 0)))) ∧
    (∃ t events x, exec .getVersion s = .next t ∧ Went [0x10, 0x00, 0x01, 0x0B] events x ∧
      x = outcomeOf [0x10, 0x00, 0x01, 0x0B] s ∧
      Ended s t events (match x with
        | .failed place => .error (.transport place)
        | .response r =>
          if r.length < 10 then .error (.shortResponse 10 r.length) else .ok (.bytes ((r.drop 3).take 7)))) ∧
    (∃ t events x, exec .getMac s = .next t ∧ Went [0x10, 0x00, 0x01, 0x13] events x ∧
      x = outcomeOf [0x10, 0x00, 0x01, 0x13] s ∧
      Ended s t events (match x with
        | .failed place => .error (.transport place)
        | .response r =>
          if r.length < 20 then .error (.shortResponse 20 r.length) else .ok (.bytes ((r.drop 3).take 17))))

/-- spec/30_encoding.md R54: two responses that differ only in their first three bytes leave every read with the same
state but for the response recorded in the history. -/
def Obligations.ResponsePrefixIsNeverRead : Prop :=
  ∀ p ∈ reads, ∀ (s : State) (pre pre' rest : Bytes) (sa : List Reply) (ra : List RecvAnswer),
    Ready s → s.sendAnswers = .ok :: sa → pre.length = 3 → pre'.length = 3 → s.cfg.rxMax = 1024 →
    ∃ t t', exec p.1 { s with recvAnswers := .ok (pre ++ rest) :: ra } = .next t ∧
      exec p.1 { s with recvAnswers := .ok (pre' ++ rest) :: ra } = .next t' ∧
      t' = { t with history := t'.history }

/-! ### Writes -/

/-- spec/41_transactions.md R102, R109 to R131: each unconstrained write of a binary64 register sends its twelve-byte
frame for every pattern, reads one response, whatever it is, and succeeds. -/
def Obligations.FloatWritesSendThePattern : Prop :=
  ∀ (v : Word64), ∀ p ∈ floatWrites v, ∀ (s : State) (r : Bytes) (sa : List Reply) (ra : List RecvAnswer),
    Ready s → s.cfg.rxMax = 1024 → s.sendAnswers = .ok :: sa → s.recvAnswers = .ok r :: ra → r.length ≤ 1024 →
    exec p.1 s = .next { s with
      sendAnswers := sa, recvAnswers := ra,
      history := s.history ++ [.send ([0x20, 0x00, 0x09, p.2] ++ le64 v) .ok, .recv 1024 (.ok r)],
      results := s.results ++ [.ok .unit] }

/-- spec/41_transactions.md R109 to R131, the ten unconstrained writes of a binary64 register, for every pattern and every
behaviour of the environment (spec/20_memory.md R38): the command completes with exactly one result, its transaction with
the twelve-byte frame goes as the environment answers, the result is the transport error or success whatever the
acknowledgment, and of the block's own state nothing has changed. -/
def Obligations.FloatWritesEndAsTheirRulesSay : Prop :=
  ∀ (v : Word64), ∀ p ∈ floatWrites v, ∀ s : State, Ready s → s.cfg.rxMax = 1024 →
    ∃ t events x, exec p.1 s = .next t ∧ Went ([0x20, 0x00, 0x09, p.2] ++ le64 v) events x ∧
      x = outcomeOf ([0x20, 0x00, 0x09, p.2] ++ le64 v) s ∧
      Ended s t events (match x with
        | .failed place => .error (.transport place)
        | .response _ => .ok .unit)

/-- spec/41_transactions.md R105: each of the 64 permitted attenuations is sent. -/
def Obligations.PermittedAttenuationIsSent : Prop :=
  ∀ (v : Word64) (s : State) (r : Bytes) (sa : List Reply) (ra : List RecvAnswer), v ∈ attSet →
    Ready s → s.cfg.rxMax = 1024 → s.sendAnswers = .ok :: sa → s.recvAnswers = .ok r :: ra → r.length ≤ 1024 →
    exec (.setAtt v) s = .next { s with
      sendAnswers := sa, recvAnswers := ra,
      history := s.history ++ [.send ([0x20, 0x00, 0x09, 0x00] ++ le64 v) .ok, .recv 1024 (.ok r)],
      results := s.results ++ [.ok .unit] }

/-- spec/41_transactions.md R105, spec/60_exceptions.md R181: any other value but negative zero raises
`InvalidArgument` with no transport event, whatever the environment. -/
def Obligations.OtherAttenuationIsInvalid : Prop :=
  ∀ (v : Word64) (s : State), v ∉ attSet → v ≠ 0x8000000000000000 → Ready s →
    exec (.setAtt v) s = .next { s with results := s.results ++ [.error (.invalidArgument .attenuation)] }

/-- spec/41_transactions.md R105, decision D11 (log 5): negative zero is sent or is an `InvalidArgument`, as the open
parameter says; the statement holds for both of its values. -/
def Obligations.NegativeZeroAttenuationFollowsTheParameter : Prop :=
  ∀ (s : State) (r : Bytes) (sa : List Reply) (ra : List RecvAnswer),
    Ready s → s.cfg.rxMax = 1024 → s.sendAnswers = .ok :: sa → s.recvAnswers = .ok r :: ra → r.length ≤ 1024 →
    exec (.setAtt 0x8000000000000000) s =
      if Config.attNegZeroOk then
        .next { s with
          sendAnswers := sa, recvAnswers := ra,
          history := s.history ++
            [.send [0x20, 0x00, 0x09, 0x00, 0, 0, 0, 0, 0, 0, 0, 0x80] .ok, .recv 1024 (.ok r)],
          results := s.results ++ [.ok .unit] }
      else .next { s with results := s.results ++ [.error (.invalidArgument .attenuation)] }

/-- spec/41_transactions.md R113: 0 and 1 are sent as one byte; every other integer completes with success and no
transport event. -/
def Obligations.StatusWriteSendsZeroAndOneOnly : Prop :=
  (∀ (v : Int) (s : State) (r : Bytes) (sa : List Reply) (ra : List RecvAnswer), v = 0 ∨ v = 1 →
    Ready s → s.cfg.rxMax = 1024 → s.sendAnswers = .ok :: sa → s.recvAnswers = .ok r :: ra → r.length ≤ 1024 →
    exec (.setTcs v) s = .next { s with
      sendAnswers := sa, recvAnswers := ra,
      history := s.history ++
        [.send [0x20, 0x00, 0x02, 0x05, if v = 0 then 0x00 else 0x01] .ok, .recv 1024 (.ok r)],
      results := s.results ++ [.ok .unit] }) ∧
  (∀ (v : Int) (s : State), v ≠ 0 → v ≠ 1 → Ready s →
    exec (.setTcs v) s = .next { s with results := s.results ++ [.ok .unit] })

/-- spec/41_transactions.md R118: the software reset is one fixed frame; the block's own state is not reset. -/
def Obligations.SoftwareResetSendsItsFrame : Prop :=
  ∀ (s : State) (r : Bytes) (sa : List Reply) (ra : List RecvAnswer),
    Ready s → s.cfg.rxMax = 1024 → s.sendAnswers = .ok :: sa → s.recvAnswers = .ok r :: ra → r.length ≤ 1024 →
    exec .reset s = .next { s with
      sendAnswers := sa, recvAnswers := ra,
      history := s.history ++ [.send [0x20, 0x00, 0x02, 0x08, 0x01] .ok, .recv 1024 (.ok r)],
      results := s.results ++ [.ok .unit] }

/-- spec/41_transactions.md R132 (length byte 0x11 and the bound of 16 are decisions D2 and D12; log 7, log 11): up to 16
bytes are padded with zeros and sent, `cfg` stays; a longer operand is refused in every state. -/
def Obligations.AddressWriteIsZeroPadded : Prop :=
  (∀ (a : Bytes) (s : State) (r : Bytes) (sa : List Reply) (ra : List RecvAnswer), a.length ≤ 16 →
    Ready s → s.cfg.rxMax = 1024 → s.sendAnswers = .ok :: sa → s.recvAnswers = .ok r :: ra → r.length ≤ 1024 →
    exec (.setIp a) s = .next { s with
      sendAnswers := sa, recvAnswers := ra,
      history := s.history ++
        [.send ([0x20, 0x00, 0x11, 0x12] ++ a ++ List.replicate (16 - a.length) 0x00) .ok, .recv 1024 (.ok r)],
      results := s.results ++ [.ok .unit] }) ∧
  (∀ (a : Bytes) (s : State), 16 < a.length → exec (.setIp a) s = .refused .ipTooLong)

/-- spec/41_transactions.md R100, R102, R103, for every behaviour of the environment (spec/20_memory.md R38): a write
command whose operand is sent completes with exactly one result, its transaction goes one of the three ways of R100
with the command's frame, the one the environment's answers give, the result is the transport error or success whatever the response, and never
`ShortResponse`; of the block's own state nothing has changed. -/
def Obligations.WritesEndAsTheirRulesSay : Prop :=
  ∀ (i : Instr) (s : State), isHostWrite i = true → WellFormed i = true → Ready s → s.cfg.rxMax = 1024 →
    ∃ t events x, exec i s = .next t ∧ Went (encode i) events x ∧
      x = outcomeOf (encode i) s ∧
      Ended s t events (match x with
        | .failed place => .error (.transport place)
        | .response _ => .ok .unit)

/-- spec/41_transactions.md R103: a write leaves the same state whatever its acknowledgment is, but for the response
recorded in the history. -/
def Obligations.AcknowledgmentContentIsIgnored : Prop :=
  ∀ (i : Instr) (s : State) (r r' : Bytes) (sa : List Reply) (ra : List RecvAnswer),
    isHostWrite i = true → WellFormed i = true → Ready s → s.cfg.rxMax = 1024 → s.sendAnswers = .ok :: sa →
    r.length ≤ 1024 → r'.length ≤ 1024 →
    ∃ t t', exec i { s with recvAnswers := .ok r :: ra } = .next t ∧
      exec i { s with recvAnswers := .ok r' :: ra } = .next t' ∧
      t' = { t with history := t'.history }

/-! ### Acceptance -/

/-- spec/41_transactions.md R134; spec/70_reset_and_hazards.md R217, R220 (the effect of a command after close is the one
R220 allows a model to take: log 6): an accessor on a closed block is a transport error at the send with nothing sent;
while a command runs or a request is unanswered it is refused, and where no block exists it is refused. -/
def Obligations.AccessorsNeedAReadyBlock : Prop :=
  ∀ (i : Instr) (s : State), isAccessor i = true → (∀ a, i = .setIp a → a.length ≤ 16) →
    (s.created = true → s.busy = false → s.awaiting = false → s.conn = .closed →
      exec i s = .next { s with results := s.results ++ [.error (.transport .send)] }) ∧
    (s.created = true → (s.busy = true ∨ s.awaiting = true) → exec i s = .refused .busy) ∧
    (s.created = false → exec i s = .refused .noBlock)

/-- spec/10_state.md R17: between the successful send of a request and its receive the request is unanswered, and after
the transaction it is not, however it ended. -/
def Obligations.AwaitingSpansSendToReceive : Prop :=
  ∀ (req : Bytes) (s : State), s.awaiting = false →
    (sentStep req s).awaiting = true ∧ (receiveResponse (sentStep req s)).2.awaiting = false ∧
    (transact req s).2.awaiting = false

/-- spec/10_state.md R21 and spec/70_reset_and_hazards.md R216, as the model reads them (log 4): of a longer sequence the
receive returns the first 1024 bytes, and the next receive returns the rest. -/
def Obligations.ResidueIsReceivedNext : Prop :=
  ∀ (s : State) (r : Bytes) (ra : List RecvAnswer), s.cfg.rxMax = 1024 → s.recvAnswers = .ok r :: ra →
    1024 < r.length → r.length ≤ 2048 →
    s.recvAnswer = .ok (r.take 1024) ∧ (recvStep s).recvAnswer = .ok (r.drop 1024) ∧
    (recvStep (recvStep s)).recvAnswers = ra

/-! ### The firmware upload -/

/-- spec/42_firmware_upload.md R153: the version frame, where the sequencer sends it next. -/
def Obligations.VersionFrameCompletes : Prop :=
  ∀ (major minor patch : Byte) (s : State) (r : Bytes) (sa : List Reply) (ra : List RecvAnswer),
    SendsNext s (.fwVersion major minor patch) → s.cfg.rxMax = 1024 →
    s.sendAnswers = .ok :: sa → s.recvAnswers = .ok r :: ra → r.length ≤ 1024 →
    exec (.fwVersion major minor patch) s = .next { s with
      sendAnswers := sa, recvAnswers := ra, fwState := .versionSent,
      history := s.history ++
        [.send ([0x20, 0x00, 0x81, 0x0A, major, minor, patch] ++ List.replicate 125 0x00) .ok, .recv 1024 (.ok r)] }

/-- spec/42_firmware_upload.md R154: the begin frame, where the sequencer sends it next: acknowledged by any response,
it opens the upload at image offset 0; a transport error aborts it. The moment of the transition and `img_off` up to it are
decision D7 (log 9), that any response acknowledges is D5 (log 23), and what an abort leaves is R158 with
spec/60_exceptions.md R188 and D19 (log 24). -/
def Obligations.BeginFrameCompletesOrAborts : Prop :=
  ∀ (s : State) (sa : List Reply) (ra : List RecvAnswer), SendsNext s .fwBegin → s.cfg.rxMax = 1024 →
    (∀ r, s.sendAnswers = .ok :: sa → s.recvAnswers = .ok r :: ra → r.length ≤ 1024 →
      exec .fwBegin s = .next { s with
        sendAnswers := sa, recvAnswers := ra, fwState := .uploading, imgOff := 0,
        history := s.history ++ [.send [0x20, 0x00, 0x02, 0x09, 0x01] .ok, .recv 1024 (.ok r)] }) ∧
    (s.sendAnswers = .ok :: sa → s.recvAnswers = .fail :: ra →
      exec .fwBegin s = .next { s with
        sendAnswers := sa, recvAnswers := ra, fwState := .aborted, busy := false, upload := none,
        history := s.history ++ [.send [0x20, 0x00, 0x02, 0x09, 0x01] .ok, .recv 1024 .fail],
        results := s.results ++ [.error (.transport .recv)] }) ∧
    (s.sendAnswers = .fail :: sa →
      exec .fwBegin s = .next { s with
        sendAnswers := sa, fwState := .aborted, busy := false, upload := none,
        history := s.history ++ [.send [0x20, 0x00, 0x02, 0x09, 0x01] .fail],
        results := s.results ++ [.error (.transport .send)] })

/-- spec/42_firmware_upload.md R155: a chunk frame, where the sequencer sends it next: the padded chunk is sent and
`img_off` moves on by the chunk's own length. -/
def Obligations.ChunkFrameCompletes : Prop :=
  ∀ (c : Bytes) (s : State) (r : Bytes) (sa : List Reply) (ra : List RecvAnswer),
    SendsNext s (.fwChunk c) → s.cfg.rxMax = 1024 →
    s.sendAnswers = .ok :: sa → s.recvAnswers = .ok r :: ra → r.length ≤ 1024 →
    exec (.fwChunk c) s = .next { s with
      sendAnswers := sa, recvAnswers := ra, imgOff := s.imgOff + c.length,
      history := s.history ++
        [.send ([0x20, 0x00, 0x81, 0x0A] ++ c ++ List.replicate (128 - c.length) 0xFF) .ok, .recv 1024 (.ok r)] }

/-- spec/42_firmware_upload.md R157: the end frame, where the sequencer sends it next: acknowledged by any response, it
finalizes the upload and the command returns; a transport error aborts it. The moment of the transition is decision D7
(log 9), that any response acknowledges is D5 (log 23), and what an abort leaves is R158 with spec/60_exceptions.md R188 and
D19 (log 24). -/
def Obligations.EndFrameCompletesOrAborts : Prop :=
  ∀ (s : State) (sa : List Reply) (ra : List RecvAnswer), SendsNext s .fwEnd → s.cfg.rxMax = 1024 →
    (∀ r, s.sendAnswers = .ok :: sa → s.recvAnswers = .ok r :: ra → r.length ≤ 1024 →
      exec .fwEnd s = .next { s with
        sendAnswers := sa, recvAnswers := ra, fwState := .finalized, busy := false, upload := none,
        history := s.history ++ [.send [0x20, 0x00, 0x02, 0x09, 0x02] .ok, .recv 1024 (.ok r)],
        results := s.results ++ [.ok .unit] }) ∧
    (s.sendAnswers = .ok :: sa → s.recvAnswers = .fail :: ra →
      exec .fwEnd s = .next { s with
        sendAnswers := sa, recvAnswers := ra, fwState := .aborted, busy := false, upload := none,
        history := s.history ++ [.send [0x20, 0x00, 0x02, 0x09, 0x02] .ok, .recv 1024 .fail],
        results := s.results ++ [.error (.transport .recv)] }) ∧
    (s.sendAnswers = .fail :: sa →
      exec .fwEnd s = .next { s with
        sendAnswers := sa, fwState := .aborted, busy := false, upload := none,
        history := s.history ++ [.send [0x20, 0x00, 0x02, 0x09, 0x02] .fail],
        results := s.results ++ [.error (.transport .send)] })

/-- spec/42_firmware_upload.md R158, spec/60_exceptions.md R188: in every state in which the sequencer has a next frame
and for every behaviour of the environment, the step answers a next state; its transaction goes one of the three ways of
R100 with that frame; where it fails the upload is aborted, the command ends with that transport error, and `img_off` has
moved past the chunk that was read; where it does not fail the upload is not aborted and no error is handed out. -/
def Obligations.UploadStepAbortsExactlyOnTransportErrors : Prop :=
  ∀ (i : Instr) (s : State), SendsNext s i → s.cfg.rxMax = 1024 →
    ∃ t events x, step s = .next t ∧ Went (encode i) events x ∧
      x = outcomeOf (encode i) s ∧
      (∀ place, x = .failed place →
        AbortedFrom s t events place (match i with | .fwChunk c => s.imgOff + c.length | _ => s.imgOff)) ∧
      (∀ r, x = .response r →
        t.fwState ≠ .aborted ∧ t.history = s.history ++ events ∧ (t.busy = true ∨ t.results = s.results ++ [.ok .unit]))

/-- spec/30_encoding.md R66, spec/41_transactions.md R134, spec/42_firmware_upload.md R161: an upload frame that is not the
one the sequencer sends next is refused, and so no frame of an upload is ever sent out of its order. -/
def Obligations.UploadFramesOutOfOrderAreRefused : Prop :=
  ∀ (i : Instr) (s : State), isUploadFrame i = true → nextFrame s ≠ some i → exec i s = .refused .outsideUpload

/-- spec/42_firmware_upload.md R150, R162: with a version string that parses, an upload is accepted whatever the sequencer
state was; it starts from `Idle` and sends its version frame next. -/
def Obligations.UploadIsAcceptedFromAnyState : Prop :=
  ∀ (s : State) (version : Text) (image : Bytes) (rest : List Command) (a b c : Byte),
    Ready s → s.pending = .fwUpload version image :: rest → parseVersion version = .ok (a, b, c) →
    ∃ t, step s = .next t ∧
      t = { s with pending := rest, busy := true, fwState := .idle,
                   upload := some { major := a, minor := b, patch := c, image := image } } ∧
      SendsNext t (.fwVersion a b c)

/-- spec/42_firmware_upload.md R152, spec/60_exceptions.md R181, R182, R188: with a version string that does not parse, the
command ends with the parser's error, `fw_state` is `Idle`, and nothing was sent. -/
def Obligations.BadVersionEndsInIdleWithNothingSent : Prop :=
  ∀ (s : State) (version : Text) (image : Bytes) (rest : List Command) (e : Error),
    Ready s → s.pending = .fwUpload version image :: rest → parseVersion version = .error e →
    step s = .next { s with pending := rest, fwState := .idle, results := s.results ++ [.error e] }

/-- spec/42_firmware_upload.md R156, R159, R160: from a ready block, an upload of an image of L bytes whose every request
is answered runs through `3 + ceil(L / 128)` transactions: version frame, begin frame, the chunks in image order, end
frame, each followed by the receive of its own acknowledgment; it ends `Finalized` with `img_off` L, one result `OK`,
and everything else as it was. -/
def Obligations.AnsweredUploadFinalizes : Prop :=
  ∀ (s : State) (version : Text) (image : Bytes) (rest : List Command) (a b c : Byte) (acks : List Bytes)
    (sa : List Reply) (ra : List RecvAnswer),
    Ready s → s.cfg.rxMax = 1024 → s.pending = .fwUpload version image :: rest →
    parseVersion version = .ok (a, b, c) → acks.length = 3 + chunkCount image → (∀ r ∈ acks, r.length ≤ 1024) →
    s.sendAnswers = List.replicate acks.length .ok ++ sa → s.recvAnswers = acks.map .ok ++ ra →
    Host.Core.run core (acks.length + 1) s = .next { s with
      pending := rest, fwState := .finalized, imgOff := image.length, upload := none, sendAnswers := sa, recvAnswers := ra,
      history := s.history ++
        answeredAll (uploadFrames { major := a, minor := b, patch := c, image := image }) acks,
      results := s.results ++ [.ok .unit] }

/-- spec/42_firmware_upload.md R163: a step of a running upload is the sequencer's next frame and nothing else: the
host's commands wait, and the upload has ended only in `Finalized` or `Aborted`. -/
def Obligations.RunningUploadExcludesCommands : Prop :=
  ∀ s t : State, s.busy = true → step s = .next t →
    t.pending = s.pending ∧ t.conn = s.conn ∧ t.cfg = s.cfg ∧
    (∃ i, nextFrame s = some i ∧ isUploadFrame i = true ∧ exec i s = .next t) ∧
    (t.busy = false → t.fwState = .finalized ∨ t.fwState = .aborted)

/-! ### Construction and close -/

/-- spec/10_state.md R23, spec/70_reset_and_hazards.md R211: the state after construction. Host and port are operands of
`OPEN`; that the sequencer starts `Idle` and the offset at 0 are the spec's own choices (D7; log 8, log 9). -/
def Obligations.ResetValues : Prop :=
  State.reset.conn = .opened ∧ State.reset.awaiting = false ∧ State.reset.busy = false ∧
  State.reset.fwState = .idle ∧ State.reset.imgOff = 0 ∧ State.reset.cfg.timeout = 5 ∧
  State.reset.cfg.nodelay = true ∧ State.reset.cfg.rxMax = 1024 ∧
  State.reset.history =
    [.connect State.reset.cfg.host State.reset.cfg.port .ok, .setNoDelay, .setTimeout 5]

/-- spec/70_reset_and_hazards.md R210 (a failed connect: decision D17; log 33): `OPEN` where no block exists. Connected,
every element has its reset value and no frame was sent; not connected, a transport error and no block. -/
def Obligations.OpenConstructsTheBlock : Prop :=
  ∀ (s : State) (host : Text) (port : Nat) (rest : List Command) (ca : List Reply),
    s.created = false → s.busy = false → s.pending = .openBlock host port :: rest →
    (s.connectAnswers = .ok :: ca →
      step s = .next { s with
        pending := rest, connectAnswers := ca, created := true, conn := .opened, awaiting := false, busy := false,
        fwState := .idle, imgOff := 0, upload := none,
        cfg := { host := host, port := port, timeout := 5, nodelay := true, rxMax := 1024 },
        history := s.history ++ [.connect host port .ok, .setNoDelay, .setTimeout 5],
        results := s.results ++ [.ok .unit] }) ∧
    (s.connectAnswers = .fail :: ca →
      step s = .next { s with
        pending := rest, connectAnswers := ca, history := s.history ++ [.connect host port .fail],
        results := s.results ++ [.error (.transport .connect)] })

/-- spec/70_reset_and_hazards.md R212 (the second close: decision D16; log 34): the first `CLOSE` closes the transport, a
second does nothing, and both succeed. -/
def Obligations.CloseClosesOnce : Prop :=
  ∀ (s : State) (rest : List Command), s.created = true → s.busy = false → s.awaiting = false →
    s.pending = .closeBlock :: rest →
    (s.conn = .opened →
      step s = .next { s with pending := rest, conn := .closed, history := s.history ++ [.close],
                              results := s.results ++ [.ok .unit] }) ∧
    (s.conn = .closed →
      step s = .next { s with pending := rest, results := s.results ++ [.ok .unit] })

/-- spec/10_state.md R16, R19: no step undoes the existence of a block, changes its configuration, or opens what is
closed; and a step closes only by the host's `CLOSE`. -/
def Obligations.ClosedForGoodAndConfiguredOnce : Prop :=
  ∀ s t : State, step s = .next t → s.created = true →
    t.created = true ∧ t.cfg = s.cfg ∧ (s.conn = .closed → t.conn = .closed) ∧
    (s.conn = .opened → t.conn = .closed → s.pending.head? = some .closeBlock)

/-! ### The step, the decoder, the invariant -/

/-- A step runs the decoded instruction: while a command runs, the sequencer's next frame; otherwise the command at the
head of the host's list, an instruction with its operands, or the instruction its frame decodes to, or, for a frame that
encodes no command, the refusal by name (spec/41_transactions.md R134); with no command the block does nothing
(spec/70_reset_and_hazards.md R211). -/
def Obligations.StepRunsTheDecodedInstruction : Prop :=
  (∀ (s : State) (b : Bytes) (rest : List Command) (i : Instr), s.busy = false → s.pending = .frame b :: rest →
    decodeRequest s.fwState b = .ok i → step s = exec i { s with pending := rest }) ∧
  (∀ (s : State) (b : Bytes) (rest : List Command) (why : Reject), s.busy = false → s.pending = .frame b :: rest →
    decodeRequest s.fwState b = .error why → step s = .refused (.badFrame why)) ∧
  (∀ (s : State) (i : Instr) (rest : List Command), s.busy = false → s.pending = .call i :: rest →
    step s = exec i { s with pending := rest }) ∧
  (∀ (s : State) (i : Instr), s.busy = true → nextFrame s = some i → step s = exec i s) ∧
  (∀ s : State, s.busy = false → s.pending = [] → step s = .next s)

/-- spec/30_encoding.md R50 to R62: the frame of every well-formed request, at every value its operand takes, decodes to
that request in the sequencer states in which its frame is read so; an operand that is padded to a fixed length comes
back padded. The bytes of a well-formed response decode to it. -/
def Obligations.DecodeEncodeAgree : Prop :=
  (∀ (i : Instr) (st : FwState), WellFormed i = true → i.readIn st = true →
    decodeRequest st (encode i) = .ok i.padded) ∧
  (∀ r : Bytes, r.length ≤ 1024 →
    decodeResponse .f64 r = .ok (.rspF64 r) ∧ decodeResponse .u8 r = .ok (.rspU8 r) ∧
    decodeResponse .b7 r = .ok (.rspB7 r) ∧ decodeResponse .b17 r = .ok (.rspB17 r) ∧
    decodeResponse .ack r = .ok (.ack r))

/-- spec/30_encoding.md R62: a request frame that decodes is the encoding of what it decodes to, so no two frames of the
decoder are confused and no bit of a frame is dropped. -/
def Obligations.EncodeDecodeAgree : Prop :=
  ∀ (st : FwState) (b : Bytes) (i : Instr), decodeRequest st b = .ok i → encode i = b ∧ i.isRequest = true

/-- spec/30_encoding.md R62: words written out from the opcode map decode to their instructions. -/
def Obligations.WrittenOutFramesDecode : Prop :=
  decodeRequest .idle [0x10, 0x00, 0x01, 0x00] = .ok .getAtt ∧
  decodeRequest .idle [0x10, 0x00, 0x01, 0x13] = .ok .getMac ∧
  decodeRequest .idle [0x20, 0x00, 0x09, 0x03, 0x00, 0x00, 0x00, 0x00, 0x00, 0x00, 0x39, 0x40] =
    .ok (.setSpAc 0x4039000000000000) ∧
  decodeRequest .idle [0x20, 0x00, 0x02, 0x05, 0x01] = .ok (.setTcs 1) ∧
  decodeRequest .idle [0x20, 0x00, 0x02, 0x08, 0x01] = .ok .reset ∧
  decodeRequest .versionSent [0x20, 0x00, 0x02, 0x09, 0x01] = .ok .fwBegin ∧
  decodeRequest .uploading [0x20, 0x00, 0x02, 0x09, 0x02] = .ok .fwEnd ∧
  decodeResponse .u8 [0xAA, 0xBB, 0xCC, 0x01] = .ok (.rspU8 [0xAA, 0xBB, 0xCC, 0x01])

/-- spec/30_encoding.md R63, spec/41_transactions.md R134: a read of a write-only register, a write of a read-only one and
anything naming an id outside the catalog decode to no instruction. -/
def Obligations.DirectionsOutsideTheCatalogAreRejected : Prop :=
  (∀ (st : FwState) (reg : Byte), reg ∈ [0x08, 0x09, 0x0A, 0x12] →
    decodeRequest st [0x10, 0x00, 0x01, reg] = .error (.notReadable reg)) ∧
  (∀ (st : FwState) (reg len : Byte) (payload : Bytes), reg ∈ [0x01, 0x02, 0x0B, 0x13] →
    lenByte payload.length = some len →
    decodeRequest st ([0x20, 0x00, len, reg] ++ payload) = .error (.notWritable reg)) ∧
  (∀ (st : FwState) (reg len : Byte) (payload : Bytes), 0x14 ≤ reg.toNat →
    decodeRequest st [0x10, 0x00, 0x01, reg] = .error (.notInCatalog reg) ∧
    (lenByte payload.length = some len →
      decodeRequest st ([0x20, 0x00, len, reg] ++ payload) = .error (.notInCatalog reg)))

/-- spec/20_memory.md R43, spec/30_encoding.md R62, spec/10_state.md R14 to R19: from every state that meets the
invariant, every step leads to one that meets it: nothing unanswered, half-duplex history, only frames of the opcode map
sent, receives bounded, the hardwired configuration, and sequencer states and operands only where R14 and R18 allow
them. -/
def Obligations.StepKeepsTheInvariant : Prop :=
  ∀ s t : State, Inv s → step s = .next t → Inv t

/-- The state after construction, and the situation before it, meet the invariant. -/
def Obligations.ResetMeetsTheInvariant : Prop :=
  Inv State.reset ∧ Inv State.beforeOpen

/-- spec/93_implementation_defined.md section 1 ("No behaviour is `stuck`"): in a state that meets the invariant a step of
a running upload answers a next state and is never a fault or a refusal, and no step at all is a fault. -/
def Obligations.NoStepOfASoundStateIsStuck : Prop :=
  (∀ s : State, Inv s → s.busy = true → ∃ t, step s = .next t) ∧
  (∀ (s : State) (f : Fault), Inv s → step s ≠ .fault f)

/-! ### The host's tests of an error -/

/-- spec/60_exceptions.md R181, R182 (decision D8; log 35): a host that tests for `InvalidArgument` catches
`InvalidVersionFormat` too, a host that tests for `InvalidVersionFormat` catches the version-string case alone; every error of
the parser is caught by the first test, and by the second exactly where the string is not three runs of digits; and an
`FW_UPLOAD` whose version string fails hands out an error that the first test catches, with nothing sent and the block
unchanged but for `fw_state`. -/
def Obligations.VersionErrorsAreCaughtAsInvalidArgument : Prop :=
  (∀ e : Error, e.isInvalidVersionFormat = true → e.isInvalidArgument = true) ∧
  (∀ e : Error, e.isInvalidArgument = true ↔ (∃ operand, e = .invalidArgument operand) ∨ e = .invalidVersionFormat) ∧
  (∀ operand : BadOperand, (Error.invalidArgument operand).isInvalidVersionFormat = false) ∧
  (∀ (version : Text) (e : Error), parseVersion version = .error e →
    e.isInvalidArgument = true ∧
    (e.isInvalidVersionFormat = true ↔
      ¬ ∃ a b c, splitVersion version = [a, b, c] ∧
        isDecimal a = true ∧ isDecimal b = true ∧ isDecimal c = true)) ∧
  (∀ (s : State) (version : Text) (image : Bytes) (rest : List Command),
    Ready s → s.pending = .fwUpload version image :: rest → (∀ v, parseVersion version ≠ .ok v) →
    ∃ e : Error, e.isInvalidArgument = true ∧
      step s = .next { s with pending := rest, fwState := .idle, results := s.results ++ [.error e] })
end

