-- ==== Sys2Proof/Laws/Codec.lean ====
section
/-! SUPPORT. What the codec's functions do, once each: lengths, the length table, padding. -/

namespace Sys2Proof.Machine

@[simp] theorem le64_length (w : Word64) : (le64 w).length = 8 := rfl

@[simp] theorem lenByte_one : lenByte 1 = some 0x02 := rfl
@[simp] theorem lenByte_eight : lenByte 8 = some 0x09 := rfl
@[simp] theorem lenByte_sixteen : lenByte 16 = some 0x11 := rfl
@[simp] theorem lenByte_chunk : lenByte 128 = some 0x81 := rfl

/-- A length byte counts the register id and the payload (spec/30_encoding.md R53, derived law). -/
theorem lenByte_toNat {n : Nat} {len : Byte} (h : lenByte n = some len) : len.toNat = 1 + n := by
  unfold lenByte at h
  split at h
  · cases h; subst_vars; rfl
  split at h
  · cases h; subst_vars; rfl
  split at h
  · cases h; subst_vars; rfl
  split at h
  · cases h; subst_vars; rfl
  · cases h

/-- The payload lengths that have a frame. -/
theorem lenByte_isSome_iff (n : Nat) : (lenByte n).isSome = true ↔ n = 1 ∨ n = 8 ∨ n = 16 ∨ n = 128 := by
  unfold lenByte
  split
  · simp [*]
  split
  · simp [*]
  split
  · simp [*]
  split
  · simp [*]
  · simp [*]

/-- What the write encoder answers, if it answers a frame. -/
theorem encWrite_eq_some {reg : Byte} {payload b : Bytes} (h : encWrite reg payload = some b) :
    ∃ len, lenByte payload.length = some len ∧ b = [clsWrite, hdr1, len, reg] ++ payload := by
  unfold encWrite at h
  split at h
  · exact ⟨_, ‹_›, (Option.some.inj h).symm⟩
  · cases h

theorem encWrite_of_len {reg : Byte} {payload : Bytes} {len : Byte} (h : lenByte payload.length = some len) :
    encWrite reg payload = some ([clsWrite, hdr1, len, reg] ++ payload) := by
  simp [encWrite, h]

theorem padRight_length (fill : Byte) (n : Nat) (b : Bytes) (h : b.length ≤ n) : (padRight fill n b).length = n := by
  simp [padRight]; omega

/-- A sequence of the full length gets no padding. -/
theorem padRight_full (fill : Byte) (b : Bytes) : padRight fill b.length b = b := by
  simp [padRight]

theorem ipPayload_length {a : Bytes} (h : a.length ≤ ipLen) : (ipPayload a).length = 16 :=
  padRight_length _ _ _ h

theorem chunkPayload_length {c : Bytes} (h : c.length ≤ chunkSize) : (chunkPayload c).length = 128 :=
  padRight_length _ _ _ h

@[simp] theorem versionPayload_length (a b c : Byte) : (versionPayload a b c).length = 128 := by
  simp [versionPayload, padRight, chunkSize]

theorem imgRead_length (image : Bytes) (off n : Nat) : (imgRead image off n).length = min n (image.length - off) := by
  simp [imgRead]

/-- The frame of a write whose payload length is in the table. -/
theorem writeFrame_eq {r : Reg} {payload : Bytes} {len : Byte} (h : lenByte payload.length = some len) :
    writeFrame r payload = [clsWrite, hdr1, len, r.id] ++ payload := by
  simp [writeFrame, encWrite_of_len h]

@[simp] theorem Reg.ofId_id (r : Reg) : Reg.ofId r.id = some r := by
  cases r <;> rfl

/-- The decoder reads exactly the readable registers of the catalog (spec/10_state.md R13). -/
theorem readInstr_isSome (r : Reg) : (readInstr r).isSome = r.readable := by
  cases r <;> rfl

/-- The decoder has no write for exactly the registers nobody writes (spec/10_state.md R13). -/
theorem writeInstr_notWritable (r : Reg) :
    (∀ st payload, writeInstr st r payload = .error (.notWritable r.id)) ↔ r.writer = .nobody := by
  cases r <;>
    first
    | exact ⟨fun _ => rfl, fun _ _ _ => rfl⟩
    | exact ⟨fun h => (nomatch h .idle []), fun h => (nomatch h)⟩

end Sys2Proof.Machine
end

