-- ==== Sys2Proof/Laws/State.lean ====
section
/-! SUPPORT. One lemma per field per update of State, so that no later proof unfolds a record update. -/

namespace Sys2Proof.Machine

@[simp] theorem State.setAwaiting_conn (b : Bool) (s : State) : (State.setAwaiting b s).conn = s.conn := rfl
@[simp] theorem State.setAwaiting_awaiting (b : Bool) (s : State) : (State.setAwaiting b s).awaiting = b := rfl
@[simp] theorem State.setAwaiting_busy (b : Bool) (s : State) : (State.setAwaiting b s).busy = s.busy := rfl
@[simp] theorem State.setAwaiting_fwState (b : Bool) (s : State) : (State.setAwaiting b s).fwState = s.fwState := rfl
@[simp] theorem State.setAwaiting_imgOff (b : Bool) (s : State) : (State.setAwaiting b s).imgOff = s.imgOff := rfl
@[simp] theorem State.setAwaiting_cfg (b : Bool) (s : State) : (State.setAwaiting b s).cfg = s.cfg := rfl
@[simp] theorem State.setAwaiting_history (b : Bool) (s : State) : (State.setAwaiting b s).history = s.history := rfl
@[simp] theorem State.setAwaiting_created (b : Bool) (s : State) : (State.setAwaiting b s).created = s.created := rfl
@[simp] theorem State.setAwaiting_upload (b : Bool) (s : State) : (State.setAwaiting b s).upload = s.upload := rfl
@[simp] theorem State.setAwaiting_pending (b : Bool) (s : State) : (State.setAwaiting b s).pending = s.pending := rfl
@[simp] theorem State.setAwaiting_results (b : Bool) (s : State) : (State.setAwaiting b s).results = s.results := rfl
@[simp] theorem State.setAwaiting_connectAnswers (b : Bool) (s : State) : (State.setAwaiting b s).connectAnswers = s.connectAnswers := rfl
@[simp] theorem State.setAwaiting_sendAnswers (b : Bool) (s : State) : (State.setAwaiting b s).sendAnswers = s.sendAnswers := rfl
@[simp] theorem State.setAwaiting_recvAnswers (b : Bool) (s : State) : (State.setAwaiting b s).recvAnswers = s.recvAnswers := rfl
@[simp] theorem State.setAwaiting_drawn (b : Bool) (s : State) : (State.setAwaiting b s).drawn = s.drawn := rfl

@[simp] theorem State.setBusy_conn (b : Bool) (s : State) : (State.setBusy b s).conn = s.conn := rfl
@[simp] theorem State.setBusy_awaiting (b : Bool) (s : State) : (State.setBusy b s).awaiting = s.awaiting := rfl
@[simp] theorem State.setBusy_busy (b : Bool) (s : State) : (State.setBusy b s).busy = b := rfl
@[simp] theorem State.setBusy_fwState (b : Bool) (s : State) : (State.setBusy b s).fwState = s.fwState := rfl
@[simp] theorem State.setBusy_imgOff (b : Bool) (s : State) : (State.setBusy b s).imgOff = s.imgOff := rfl
@[simp] theorem State.setBusy_cfg (b : Bool) (s : State) : (State.setBusy b s).cfg = s.cfg := rfl
@[simp] theorem State.setBusy_history (b : Bool) (s : State) : (State.setBusy b s).history = s.history := rfl
@[simp] theorem State.setBusy_created (b : Bool) (s : State) : (State.setBusy b s).created = s.created := rfl
@[simp] theorem State.setBusy_upload (b : Bool) (s : State) : (State.setBusy b s).upload = s.upload := rfl
@[simp] theorem State.setBusy_pending (b : Bool) (s : State) : (State.setBusy b s).pending = s.pending := rfl
@[simp] theorem State.setBusy_results (b : Bool) (s : State) : (State.setBusy b s).results = s.results := rfl
@[simp] theorem State.setBusy_connectAnswers (b : Bool) (s : State) : (State.setBusy b s).connectAnswers = s.connectAnswers := rfl
@[simp] theorem State.setBusy_sendAnswers (b : Bool) (s : State) : (State.setBusy b s).sendAnswers = s.sendAnswers := rfl
@[simp] theorem State.setBusy_recvAnswers (b : Bool) (s : State) : (State.setBusy b s).recvAnswers = s.recvAnswers := rfl
@[simp] theorem State.setBusy_drawn (b : Bool) (s : State) : (State.setBusy b s).drawn = s.drawn := rfl

@[simp] theorem State.setFw_conn (st : FwState) (s : State) : (State.setFw st s).conn = s.conn := rfl
@[simp] theorem State.setFw_awaiting (st : FwState) (s : State) : (State.setFw st s).awaiting = s.awaiting := rfl
@[simp] theorem State.setFw_busy (st : FwState) (s : State) : (State.setFw st s).busy = s.busy := rfl
@[simp] theorem State.setFw_fwState (st : FwState) (s : State) : (State.setFw st s).fwState = st := rfl
@[simp] theorem State.setFw_imgOff (st : FwState) (s : State) : (State.setFw st s).imgOff = s.imgOff := rfl
@[simp] theorem State.setFw_cfg (st : FwState) (s : State) : (State.setFw st s).cfg = s.cfg := rfl
@[simp] theorem State.setFw_history (st : FwState) (s : State) : (State.setFw st s).history = s.history := rfl
@[simp] theorem State.setFw_created (st : FwState) (s : State) : (State.setFw st s).created = s.created := rfl
@[simp] theorem State.setFw_upload (st : FwState) (s : State) : (State.setFw st s).upload = s.upload := rfl
@[simp] theorem State.setFw_pending (st : FwState) (s : State) : (State.setFw st s).pending = s.pending := rfl
@[simp] theorem State.setFw_results (st : FwState) (s : State) : (State.setFw st s).results = s.results := rfl
@[simp] theorem State.setFw_connectAnswers (st : FwState) (s : State) : (State.setFw st s).connectAnswers = s.connectAnswers := rfl
@[simp] theorem State.setFw_sendAnswers (st : FwState) (s : State) : (State.setFw st s).sendAnswers = s.sendAnswers := rfl
@[simp] theorem State.setFw_recvAnswers (st : FwState) (s : State) : (State.setFw st s).recvAnswers = s.recvAnswers := rfl
@[simp] theorem State.setFw_drawn (st : FwState) (s : State) : (State.setFw st s).drawn = s.drawn := rfl

@[simp] theorem State.setImgOff_conn (n : Nat) (s : State) : (State.setImgOff n s).conn = s.conn := rfl
@[simp] theorem State.setImgOff_awaiting (n : Nat) (s : State) : (State.setImgOff n s).awaiting = s.awaiting := rfl
@[simp] theorem State.setImgOff_busy (n : Nat) (s : State) : (State.setImgOff n s).busy = s.busy := rfl
@[simp] theorem State.setImgOff_fwState (n : Nat) (s : State) : (State.setImgOff n s).fwState = s.fwState := rfl
@[simp] theorem State.setImgOff_imgOff (n : Nat) (s : State) : (State.setImgOff n s).imgOff = n := rfl
@[simp] theorem State.setImgOff_cfg (n : Nat) (s : State) : (State.setImgOff n s).cfg = s.cfg := rfl
@[simp] theorem State.setImgOff_history (n : Nat) (s : State) : (State.setImgOff n s).history = s.history := rfl
@[simp] theorem State.setImgOff_created (n : Nat) (s : State) : (State.setImgOff n s).created = s.created := rfl
@[simp] theorem State.setImgOff_upload (n : Nat) (s : State) : (State.setImgOff n s).upload = s.upload := rfl
@[simp] theorem State.setImgOff_pending (n : Nat) (s : State) : (State.setImgOff n s).pending = s.pending := rfl
@[simp] theorem State.setImgOff_results (n : Nat) (s : State) : (State.setImgOff n s).results = s.results := rfl
@[simp] theorem State.setImgOff_connectAnswers (n : Nat) (s : State) : (State.setImgOff n s).connectAnswers = s.connectAnswers := rfl
@[simp] theorem State.setImgOff_sendAnswers (n : Nat) (s : State) : (State.setImgOff n s).sendAnswers = s.sendAnswers := rfl
@[simp] theorem State.setImgOff_recvAnswers (n : Nat) (s : State) : (State.setImgOff n s).recvAnswers = s.recvAnswers := rfl
@[simp] theorem State.setImgOff_drawn (n : Nat) (s : State) : (State.setImgOff n s).drawn = s.drawn := rfl

@[simp] theorem State.setConn_conn (c : Conn) (s : State) : (State.setConn c s).conn = c := rfl
@[simp] theorem State.setConn_awaiting (c : Conn) (s : State) : (State.setConn c s).awaiting = s.awaiting := rfl
@[simp] theorem State.setConn_busy (c : Conn) (s : State) : (State.setConn c s).busy = s.busy := rfl
@[simp] theorem State.setConn_fwState (c : Conn) (s : State) : (State.setConn c s).fwState = s.fwState := rfl
@[simp] theorem State.setConn_imgOff (c : Conn) (s : State) : (State.setConn c s).imgOff = s.imgOff := rfl
@[simp] theorem State.setConn_cfg (c : Conn) (s : State) : (State.setConn c s).cfg = s.cfg := rfl
@[simp] theorem State.setConn_history (c : Conn) (s : State) : (State.setConn c s).history = s.history := rfl
@[simp] theorem State.setConn_created (c : Conn) (s : State) : (State.setConn c s).created = s.created := rfl
@[simp] theorem State.setConn_upload (c : Conn) (s : State) : (State.setConn c s).upload = s.upload := rfl
@[simp] theorem State.setConn_pending (c : Conn) (s : State) : (State.setConn c s).pending = s.pending := rfl
@[simp] theorem State.setConn_results (c : Conn) (s : State) : (State.setConn c s).results = s.results := rfl
@[simp] theorem State.setConn_connectAnswers (c : Conn) (s : State) : (State.setConn c s).connectAnswers = s.connectAnswers := rfl
@[simp] theorem State.setConn_sendAnswers (c : Conn) (s : State) : (State.setConn c s).sendAnswers = s.sendAnswers := rfl
@[simp] theorem State.setConn_recvAnswers (c : Conn) (s : State) : (State.setConn c s).recvAnswers = s.recvAnswers := rfl
@[simp] theorem State.setConn_drawn (c : Conn) (s : State) : (State.setConn c s).drawn = s.drawn := rfl

@[simp] theorem State.setUpload_conn (u : Option Upload) (s : State) : (State.setUpload u s).conn = s.conn := rfl
@[simp] theorem State.setUpload_awaiting (u : Option Upload) (s : State) : (State.setUpload u s).awaiting = s.awaiting := rfl
@[simp] theorem State.setUpload_busy (u : Option Upload) (s : State) : (State.setUpload u s).busy = s.busy := rfl
@[simp] theorem State.setUpload_fwState (u : Option Upload) (s : State) : (State.setUpload u s).fwState = s.fwState := rfl
@[simp] theorem State.setUpload_imgOff (u : Option Upload) (s : State) : (State.setUpload u s).imgOff = s.imgOff := rfl
@[simp] theorem State.setUpload_cfg (u : Option Upload) (s : State) : (State.setUpload u s).cfg = s.cfg := rfl
@[simp] theorem State.setUpload_history (u : Option Upload) (s : State) : (State.setUpload u s).history = s.history := rfl
@[simp] theorem State.setUpload_created (u : Option Upload) (s : State) : (State.setUpload u s).created = s.created := rfl
@[simp] theorem State.setUpload_upload (u : Option Upload) (s : State) : (State.setUpload u s).upload = u := rfl
@[simp] theorem State.setUpload_pending (u : Option Upload) (s : State) : (State.setUpload u s).pending = s.pending := rfl
@[simp] theorem State.setUpload_results (u : Option Upload) (s : State) : (State.setUpload u s).results = s.results := rfl
@[simp] theorem State.setUpload_connectAnswers (u : Option Upload) (s : State) : (State.setUpload u s).connectAnswers = s.connectAnswers := rfl
@[simp] theorem State.setUpload_sendAnswers (u : Option Upload) (s : State) : (State.setUpload u s).sendAnswers = s.sendAnswers := rfl
@[simp] theorem State.setUpload_recvAnswers (u : Option Upload) (s : State) : (State.setUpload u s).recvAnswers = s.recvAnswers := rfl
@[simp] theorem State.setUpload_drawn (u : Option Upload) (s : State) : (State.setUpload u s).drawn = s.drawn := rfl

@[simp] theorem State.record_conn (e : Event) (s : State) : (State.record e s).conn = s.conn := rfl
@[simp] theorem State.record_awaiting (e : Event) (s : State) : (State.record e s).awaiting = s.awaiting := rfl
@[simp] theorem State.record_busy (e : Event) (s : State) : (State.record e s).busy = s.busy := rfl
@[simp] theorem State.record_fwState (e : Event) (s : State) : (State.record e s).fwState = s.fwState := rfl
@[simp] theorem State.record_imgOff (e : Event) (s : State) : (State.record e s).imgOff = s.imgOff := rfl
@[simp] theorem State.record_cfg (e : Event) (s : State) : (State.record e s).cfg = s.cfg := rfl
@[simp] theorem State.record_history (e : Event) (s : State) : (State.record e s).history = s.history ++ [e] := rfl
@[simp] theorem State.record_created (e : Event) (s : State) : (State.record e s).created = s.created := rfl
@[simp] theorem State.record_upload (e : Event) (s : State) : (State.record e s).upload = s.upload := rfl
@[simp] theorem State.record_pending (e : Event) (s : State) : (State.record e s).pending = s.pending := rfl
@[simp] theorem State.record_results (e : Event) (s : State) : (State.record e s).results = s.results := rfl
@[simp] theorem State.record_connectAnswers (e : Event) (s : State) : (State.record e s).connectAnswers = s.connectAnswers := rfl
@[simp] theorem State.record_sendAnswers (e : Event) (s : State) : (State.record e s).sendAnswers = s.sendAnswers := rfl
@[simp] theorem State.record_recvAnswers (e : Event) (s : State) : (State.record e s).recvAnswers = s.recvAnswers := rfl
@[simp] theorem State.record_drawn (e : Event) (s : State) : (State.record e s).drawn = s.drawn := rfl

@[simp] theorem State.report_conn (r : Result) (s : State) : (State.report r s).conn = s.conn := rfl
@[simp] theorem State.report_awaiting (r : Result) (s : State) : (State.report r s).awaiting = s.awaiting := rfl
@[simp] theorem State.report_busy (r : Result) (s : State) : (State.report r s).busy = s.busy := rfl
@[simp] theorem State.report_fwState (r : Result) (s : State) : (State.report r s).fwState = s.fwState := rfl
@[simp] theorem State.report_imgOff (r : Result) (s : State) : (State.report r s).imgOff = s.imgOff := rfl
@[simp] theorem State.report_cfg (r : Result) (s : State) : (State.report r s).cfg = s.cfg := rfl
@[simp] theorem State.report_history (r : Result) (s : State) : (State.report r s).history = s.history := rfl
@[simp] theorem State.report_created (r : Result) (s : State) : (State.report r s).created = s.created := rfl
@[simp] theorem State.report_upload (r : Result) (s : State) : (State.report r s).upload = s.upload := rfl
@[simp] theorem State.report_pending (r : Result) (s : State) : (State.report r s).pending = s.pending := rfl
@[simp] theorem State.report_results (r : Result) (s : State) : (State.report r s).results = s.results ++ [r] := rfl
@[simp] theorem State.report_connectAnswers (r : Result) (s : State) : (State.report r s).connectAnswers = s.connectAnswers := rfl
@[simp] theorem State.report_sendAnswers (r : Result) (s : State) : (State.report r s).sendAnswers = s.sendAnswers := rfl
@[simp] theorem State.report_recvAnswers (r : Result) (s : State) : (State.report r s).recvAnswers = s.recvAnswers := rfl
@[simp] theorem State.report_drawn (r : Result) (s : State) : (State.report r s).drawn = s.drawn := rfl

end Sys2Proof.Machine
end

