-- ==== Sys2Proof/Laws/Ops.lean ====
section
/-! SUPPORT. What each shared operation does, once: its effect on every field, and the cases of its outcome. -/

namespace Sys2Proof.Machine

@[simp] theorem connectStep_conn (host : Text) (port : Nat) (s : State) : (connectStep host port s).conn = s.conn := rfl
@[simp] theorem connectStep_awaiting (host : Text) (port : Nat) (s : State) : (connectStep host port s).awaiting = s.awaiting := rfl
@[simp] theorem connectStep_busy (host : Text) (port : Nat) (s : State) : (connectStep host port s).busy = s.busy := rfl
@[simp] theorem connectStep_fwState (host : Text) (port : Nat) (s : State) : (connectStep host port s).fwState = s.fwState := rfl
@[simp] theorem connectStep_imgOff (host : Text) (port : Nat) (s : State) : (connectStep host port s).imgOff = s.imgOff := rfl
@[simp] theorem connectStep_cfg (host : Text) (port : Nat) (s : State) : (connectStep host port s).cfg = s.cfg := rfl
@[simp] theorem connectStep_history (host : Text) (port : Nat) (s : State) : (connectStep host port s).history = s.history ++ [.connect host port s.connectAnswer] := rfl
@[simp] theorem connectStep_created (host : Text) (port : Nat) (s : State) : (connectStep host port s).created = s.created := rfl
@[simp] theorem connectStep_upload (host : Text) (port : Nat) (s : State) : (connectStep host port s).upload = s.upload := rfl
@[simp] theorem connectStep_pending (host : Text) (port : Nat) (s : State) : (connectStep host port s).pending = s.pending := rfl
@[simp] theorem connectStep_results (host : Text) (port : Nat) (s : State) : (connectStep host port s).results = s.results := rfl
@[simp] theorem connectStep_connectAnswers (host : Text) (port : Nat) (s : State) : (connectStep host port s).connectAnswers = s.connectAnswers.tail := rfl
@[simp] theorem connectStep_sendAnswers (host : Text) (port : Nat) (s : State) : (connectStep host port s).sendAnswers = s.sendAnswers := rfl
@[simp] theorem connectStep_recvAnswers (host : Text) (port : Nat) (s : State) : (connectStep host port s).recvAnswers = s.recvAnswers := rfl
@[simp] theorem connectStep_drawn (host : Text) (port : Nat) (s : State) : (connectStep host port s).drawn = s.drawn + drawsFree s.connectAnswers := rfl

@[simp] theorem sendStep_conn (req : Bytes) (s : State) : (sendStep req s).conn = s.conn := rfl
@[simp] theorem sendStep_awaiting (req : Bytes) (s : State) : (sendStep req s).awaiting = s.awaiting := rfl
@[simp] theorem sendStep_busy (req : Bytes) (s : State) : (sendStep req s).busy = s.busy := rfl
@[simp] theorem sendStep_fwState (req : Bytes) (s : State) : (sendStep req s).fwState = s.fwState := rfl
@[simp] theorem sendStep_imgOff (req : Bytes) (s : State) : (sendStep req s).imgOff = s.imgOff := rfl
@[simp] theorem sendStep_cfg (req : Bytes) (s : State) : (sendStep req s).cfg = s.cfg := rfl
@[simp] theorem sendStep_history (req : Bytes) (s : State) : (sendStep req s).history = s.history ++ [.send req s.sendAnswer] := rfl
@[simp] theorem sendStep_created (req : Bytes) (s : State) : (sendStep req s).created = s.created := rfl
@[simp] theorem sendStep_upload (req : Bytes) (s : State) : (sendStep req s).upload = s.upload := rfl
@[simp] theorem sendStep_pending (req : Bytes) (s : State) : (sendStep req s).pending = s.pending := rfl
@[simp] theorem sendStep_results (req : Bytes) (s : State) : (sendStep req s).results = s.results := rfl
@[simp] theorem sendStep_connectAnswers (req : Bytes) (s : State) : (sendStep req s).connectAnswers = s.connectAnswers := rfl
@[simp] theorem sendStep_sendAnswers (req : Bytes) (s : State) : (sendStep req s).sendAnswers = s.sendAnswers.tail := rfl
@[simp] theorem sendStep_recvAnswers (req : Bytes) (s : State) : (sendStep req s).recvAnswers = s.recvAnswers := rfl
@[simp] theorem sendStep_drawn (req : Bytes) (s : State) : (sendStep req s).drawn = s.drawn + drawsFree s.sendAnswers := rfl

@[simp] theorem recvStep_conn (s : State) : (recvStep s).conn = s.conn := rfl
@[simp] theorem recvStep_awaiting (s : State) : (recvStep s).awaiting = s.awaiting := rfl
@[simp] theorem recvStep_busy (s : State) : (recvStep s).busy = s.busy := rfl
@[simp] theorem recvStep_fwState (s : State) : (recvStep s).fwState = s.fwState := rfl
@[simp] theorem recvStep_imgOff (s : State) : (recvStep s).imgOff = s.imgOff := rfl
@[simp] theorem recvStep_cfg (s : State) : (recvStep s).cfg = s.cfg := rfl
@[simp] theorem recvStep_history (s : State) : (recvStep s).history = s.history ++ [.recv s.cfg.rxMax s.recvAnswer] := rfl
@[simp] theorem recvStep_created (s : State) : (recvStep s).created = s.created := rfl
@[simp] theorem recvStep_upload (s : State) : (recvStep s).upload = s.upload := rfl
@[simp] theorem recvStep_pending (s : State) : (recvStep s).pending = s.pending := rfl
@[simp] theorem recvStep_results (s : State) : (recvStep s).results = s.results := rfl
@[simp] theorem recvStep_connectAnswers (s : State) : (recvStep s).connectAnswers = s.connectAnswers := rfl
@[simp] theorem recvStep_sendAnswers (s : State) : (recvStep s).sendAnswers = s.sendAnswers := rfl
@[simp] theorem recvStep_recvAnswers (s : State) : (recvStep s).recvAnswers = residue s.cfg.rxMax s.recvReady ++ s.recvAnswers.tail := rfl
@[simp] theorem recvStep_drawn (s : State) : (recvStep s).drawn = s.drawn + drawsFree s.recvAnswers := rfl

@[simp] theorem complete_conn (v : Value) (s : State) : (complete v s).conn = s.conn := rfl
@[simp] theorem complete_awaiting (v : Value) (s : State) : (complete v s).awaiting = s.awaiting := rfl
@[simp] theorem complete_busy (v : Value) (s : State) : (complete v s).busy = false := rfl
@[simp] theorem complete_fwState (v : Value) (s : State) : (complete v s).fwState = s.fwState := rfl
@[simp] theorem complete_imgOff (v : Value) (s : State) : (complete v s).imgOff = s.imgOff := rfl
@[simp] theorem complete_cfg (v : Value) (s : State) : (complete v s).cfg = s.cfg := rfl
@[simp] theorem complete_history (v : Value) (s : State) : (complete v s).history = s.history := rfl
@[simp] theorem complete_created (v : Value) (s : State) : (complete v s).created = s.created := rfl
@[simp] theorem complete_upload (v : Value) (s : State) : (complete v s).upload = s.upload := rfl
@[simp] theorem complete_pending (v : Value) (s : State) : (complete v s).pending = s.pending := rfl
@[simp] theorem complete_results (v : Value) (s : State) : (complete v s).results = s.results ++ [.ok v] := rfl
@[simp] theorem complete_connectAnswers (v : Value) (s : State) : (complete v s).connectAnswers = s.connectAnswers := rfl
@[simp] theorem complete_sendAnswers (v : Value) (s : State) : (complete v s).sendAnswers = s.sendAnswers := rfl
@[simp] theorem complete_recvAnswers (v : Value) (s : State) : (complete v s).recvAnswers = s.recvAnswers := rfl
@[simp] theorem complete_drawn (v : Value) (s : State) : (complete v s).drawn = s.drawn := rfl

@[simp] theorem raise_conn (e : Error) (s : State) : (raise e s).conn = s.conn := rfl
@[simp] theorem raise_awaiting (e : Error) (s : State) : (raise e s).awaiting = false := rfl
@[simp] theorem raise_busy (e : Error) (s : State) : (raise e s).busy = false := rfl
@[simp] theorem raise_fwState (e : Error) (s : State) : (raise e s).fwState = s.fwState := rfl
@[simp] theorem raise_imgOff (e : Error) (s : State) : (raise e s).imgOff = s.imgOff := rfl
@[simp] theorem raise_cfg (e : Error) (s : State) : (raise e s).cfg = s.cfg := rfl
@[simp] theorem raise_history (e : Error) (s : State) : (raise e s).history = s.history := rfl
@[simp] theorem raise_created (e : Error) (s : State) : (raise e s).created = s.created := rfl
@[simp] theorem raise_upload (e : Error) (s : State) : (raise e s).upload = s.upload := rfl
@[simp] theorem raise_pending (e : Error) (s : State) : (raise e s).pending = s.pending := rfl
@[simp] theorem raise_results (e : Error) (s : State) : (raise e s).results = s.results ++ [.error e] := rfl
@[simp] theorem raise_connectAnswers (e : Error) (s : State) : (raise e s).connectAnswers = s.connectAnswers := rfl
@[simp] theorem raise_sendAnswers (e : Error) (s : State) : (raise e s).sendAnswers = s.sendAnswers := rfl
@[simp] theorem raise_recvAnswers (e : Error) (s : State) : (raise e s).recvAnswers = s.recvAnswers := rfl
@[simp] theorem raise_drawn (e : Error) (s : State) : (raise e s).drawn = s.drawn := rfl

@[simp] theorem abortUpload_conn (e : Error) (s : State) : (abortUpload e s).conn = s.conn := rfl
@[simp] theorem abortUpload_awaiting (e : Error) (s : State) : (abortUpload e s).awaiting = false := rfl
@[simp] theorem abortUpload_busy (e : Error) (s : State) : (abortUpload e s).busy = false := rfl
@[simp] theorem abortUpload_fwState (e : Error) (s : State) : (abortUpload e s).fwState = .aborted := rfl
@[simp] theorem abortUpload_imgOff (e : Error) (s : State) : (abortUpload e s).imgOff = s.imgOff := rfl
@[simp] theorem abortUpload_cfg (e : Error) (s : State) : (abortUpload e s).cfg = s.cfg := rfl
@[simp] theorem abortUpload_history (e : Error) (s : State) : (abortUpload e s).history = s.history := rfl
@[simp] theorem abortUpload_created (e : Error) (s : State) : (abortUpload e s).created = s.created := rfl
@[simp] theorem abortUpload_upload (e : Error) (s : State) : (abortUpload e s).upload = none := rfl
@[simp] theorem abortUpload_pending (e : Error) (s : State) : (abortUpload e s).pending = s.pending := rfl
@[simp] theorem abortUpload_results (e : Error) (s : State) : (abortUpload e s).results = s.results ++ [.error e] := rfl
@[simp] theorem abortUpload_connectAnswers (e : Error) (s : State) : (abortUpload e s).connectAnswers = s.connectAnswers := rfl
@[simp] theorem abortUpload_sendAnswers (e : Error) (s : State) : (abortUpload e s).sendAnswers = s.sendAnswers := rfl
@[simp] theorem abortUpload_recvAnswers (e : Error) (s : State) : (abortUpload e s).recvAnswers = s.recvAnswers := rfl
@[simp] theorem abortUpload_drawn (e : Error) (s : State) : (abortUpload e s).drawn = s.drawn := rfl

/-! ### The host's tests of an error -/

@[simp] theorem Error.isInvalidArgument_invalidArgument (operand : BadOperand) :
    (Error.invalidArgument operand).isInvalidArgument = true := rfl
@[simp] theorem Error.isInvalidArgument_invalidVersionFormat : Error.invalidVersionFormat.isInvalidArgument = true := rfl
@[simp] theorem Error.isInvalidArgument_shortResponse (need got : Nat) :
    (Error.shortResponse need got).isInvalidArgument = false := rfl
@[simp] theorem Error.isInvalidArgument_transport (place : Place) :
    (Error.transport place).isInvalidArgument = false := rfl

/-- The test for `InvalidVersionFormat` catches that error and no other. -/
@[simp] theorem Error.isInvalidVersionFormat_iff (e : Error) :
    e.isInvalidVersionFormat = true ↔ e = .invalidVersionFormat := by
  cases e <;> simp [Error.isInvalidVersionFormat]

/-- Everything the version parser can answer: the three values, or the range error, of three runs of digits; the format
error of every other string (spec/42_firmware_upload.md R152). -/
theorem parseVersion_cases (version : Text) :
    (∃ a b c, splitVersion version = [a, b, c] ∧ isDecimal a = true ∧ isDecimal b = true ∧ isDecimal c = true ∧
      ((∃ v, parseVersion version = .ok v) ∨ parseVersion version = .error (.invalidArgument .versionComponent))) ∨
    ((¬ ∃ a b c, splitVersion version = [a, b, c] ∧ isDecimal a = true ∧ isDecimal b = true ∧ isDecimal c = true) ∧
      parseVersion version = .error .invalidVersionFormat) := by
  unfold parseVersion
  split
  · rename_i a b c hs
    split
    · rename_i hd
      simp only [Bool.and_eq_true] at hd
      refine .inl ⟨a, b, c, hs, hd.1.1, hd.1.2, hd.2, ?_⟩
      split
      · exact .inl ⟨_, rfl⟩
      · exact .inr rfl
    · rename_i hd
      refine .inr ⟨?_, rfl⟩
      rintro ⟨a', b', c', hs', ha, hb, hc⟩
      rw [hs] at hs'
      cases hs'
      simp [ha, hb, hc] at hd
  · rename_i hs
    exact .inr ⟨fun ⟨a, b, c, h, _⟩ => hs a b c h, rfl⟩

/-! ### The transport's answers -/

/-- A receive returns at most `cfg.rx_max` bytes. -/
theorem recvAnswer_length {s : State} {r : Bytes} (h : s.recvAnswer = .ok r) : r.length ≤ s.cfg.rxMax := by
  unfold State.recvAnswer at h
  cases hr : s.recvReady <;> rw [hr] at h
  · cases h; simp
  · cases h

/-- A listed answer is the one the next send gets. -/
theorem sendAnswer_of_cons {s : State} {a : Reply} {rest : List Reply} (h : s.sendAnswers = a :: rest) :
    s.sendAnswer = a := by
  simp [State.sendAnswer, h]

/-- A listed answer of at most `cfg.rx_max` bytes is what the next receive returns, and nothing of it stays behind. -/
theorem recvAnswer_of_cons {s : State} {r : Bytes} {rest : List RecvAnswer} (h : s.recvAnswers = .ok r :: rest)
    (hr : r.length ≤ s.cfg.rxMax) : s.recvAnswer = .ok r ∧ (recvStep s).recvAnswers = rest := by
  simp [State.recvAnswer, State.recvReady, h, recvPart, residue, hr, List.take_of_length_le hr]

/-- A listed failure is what the next receive returns. -/
theorem recvAnswer_of_cons_fail {s : State} {rest : List RecvAnswer} (h : s.recvAnswers = .fail :: rest) :
    s.recvAnswer = .fail ∧ (recvStep s).recvAnswers = rest := by
  simp [State.recvAnswer, State.recvReady, h, recvPart, residue]

/-! ### The transaction -/

/-- Everything a transaction can do: a failed send and nothing else; or a sent request and a failed receive; or a sent
request and its response (spec/41_transactions.md R100). -/
theorem transact_cases (req : Bytes) (s : State) :
    (s.sendAnswer = .fail ∧ transact req s = (.failed .send, sendStep req s)) ∨
    (s.sendAnswer = .ok ∧ (sentStep req s).recvAnswer = .fail ∧
      transact req s = (.failed .recv, (recvStep (sentStep req s)).setAwaiting false)) ∨
    (∃ r, s.sendAnswer = .ok ∧ (sentStep req s).recvAnswer = .ok r ∧
      transact req s = (.response r, (recvStep (sentStep req s)).setAwaiting false)) := by
  cases hs : s.sendAnswer with
  | fail => exact .inl ⟨rfl, by simp [transact, hs]⟩
  | ok =>
    right
    cases hr : (sentStep req s).recvAnswer with
    | fail => exact .inl ⟨rfl, rfl, by simp [transact, hs, receiveResponse, hr]⟩
    | ok r => exact .inr ⟨r, rfl, rfl, by simp [transact, hs, receiveResponse, hr]⟩

/-! ### Acceptance -/

/-- A ready block runs the body of a command, with `busy` true. -/
theorem accepted_ready {s : State} (body : State → Host.Outcome State Fault Refusal) (hc : s.created = true)
    (ho : s.conn = .opened) (hb : s.busy = false) (ha : s.awaiting = false) : accepted s body = body (s.setBusy true) := by
  simp [accepted, hc, ho, hb, ha]

/-- If a command that uses the connection answers a next state, the block was closed and the transport error of
spec/70_reset_and_hazards.md R220 was raised, or it was ready and the body answered. -/
theorem accepted_next {s t : State} {body : State → Host.Outcome State Fault Refusal} (h : accepted s body = .next t) :
    s.created = true ∧ s.busy = false ∧ s.awaiting = false ∧
      ((s.conn = .closed ∧ t = raise (.transport .send) s) ∨ (s.conn = .opened ∧ body (s.setBusy true) = .next t)) := by
  unfold accepted at h
  split at h
  · split at h
    · cases h
    · rename_i hc hb
      simp only [Bool.or_eq_true, not_or, Bool.not_eq_true] at hb
      split at h
      · cases h; exact ⟨hc, hb.1, hb.2, .inl ⟨‹_›, rfl⟩⟩
      · exact ⟨hc, hb.1, hb.2, .inr ⟨‹_›, h⟩⟩
  · cases h

/-- If an upload frame answers a next state, it is the frame the sequencer sends next. -/
theorem inSequence_next {i : Instr} {s t : State} {body : State → Host.Outcome State Fault Refusal}
    (h : inSequence i s body = .next t) : nextFrame s = some i ∧ body s = .next t := by
  unfold inSequence at h
  split at h
  · exact ⟨‹_›, h⟩
  · cases h

/-- If a write answers a next state, it is the end of a transaction with the frame of R81. -/
theorem sendWrite_next {r : Reg} {payload : Bytes} {s t : State} (h : sendWrite r payload s = .next t) :
    ∃ req, encWrite r.id payload = some req ∧ t = finishWrite (transact req s) := by
  unfold sendWrite at h
  split at h
  · cases h; exact ⟨_, ‹_›, rfl⟩
  · cases h

/-- If an upload frame is sent, it is the end of a transaction with the frame of R81. -/
theorem uploadWrite_next {r : Reg} {payload : Bytes} {advance : State → State} {s t : State}
    (h : uploadWrite r payload advance s = .next t) :
    ∃ req, encWrite r.id payload = some req ∧ t = finishUpload advance (transact req s) := by
  unfold uploadWrite at h
  split at h
  · cases h; exact ⟨_, ‹_›, rfl⟩
  · cases h

/-- Where the sequencer has a next frame, an upload is in progress on a ready connection, in the state of that frame. -/
theorem nextFrame_eq_some {s : State} {i : Instr} (h : nextFrame s = some i) :
    ∃ u, s.upload = some u ∧ s.created = true ∧ s.busy = true ∧ s.awaiting = false ∧ s.conn = .opened ∧
      ((s.fwState = .idle ∧ i = .fwVersion u.major u.minor u.patch) ∨
       (s.fwState = .versionSent ∧ i = .fwBegin) ∨
       (s.fwState = .uploading ∧ imgRead u.image s.imgOff chunkSize = [] ∧ i = .fwEnd) ∨
       (s.fwState = .uploading ∧ imgRead u.image s.imgOff chunkSize ≠ [] ∧
         i = .fwChunk (imgRead u.image s.imgOff chunkSize))) := by
  unfold nextFrame at h
  split at h
  · cases h
  rename_i u hu
  split at h
  · rename_i hg
    simp only [Bool.and_eq_true, Bool.not_eq_true', beq_iff_eq] at hg
    refine ⟨u, hu, hg.1.1.1, hg.1.1.2, hg.1.2, hg.2, ?_⟩
    split at h
    · cases h; exact .inl ⟨‹_›, rfl⟩
    · cases h; exact .inr (.inl ⟨‹_›, rfl⟩)
    · split at h
      · cases h; exact .inr (.inr (.inl ⟨‹_›, List.isEmpty_iff.mp ‹_›, rfl⟩))
      · cases h; exact .inr (.inr (.inr ⟨‹_›, fun he => by simp_all, rfl⟩))
    · cases h
    · cases h
  · cases h

/-- A transaction changes `awaiting`, the history and the environment's lists, and nothing else
(spec/41_transactions.md R100, "State written"). -/
theorem transact_frame (req : Bytes) (s : State) :
    (transact req s).2 = { s with
      awaiting := (transact req s).2.awaiting, history := (transact req s).2.history,
      sendAnswers := s.sendAnswers.tail, recvAnswers := (transact req s).2.recvAnswers,
      drawn := (transact req s).2.drawn } := by
  rcases transact_cases req s with ⟨_, h⟩ | ⟨_, _, h⟩ | ⟨_, _, _, h⟩ <;> rw [h] <;> rfl

/-- A read ends with an error or with a value, from the state its transaction left (R101). -/
theorem finishRead_cases (shape : Shape) (x : Exchange × State) :
    (∃ e, finishRead shape x = raise e x.2) ∨ (∃ v, finishRead shape x = complete v x.2) := by
  obtain ⟨x, s⟩ := x
  cases x with
  | failed place => exact .inl ⟨_, rfl⟩
  | response r =>
    simp only [finishRead]
    split
    · exact .inr ⟨_, rfl⟩
    · exact .inl ⟨_, rfl⟩

/-- A write ends with a transport error or with success (R102, R103). -/
theorem finishWrite_cases (x : Exchange × State) :
    (∃ place, finishWrite x = raise (.transport place) x.2) ∨ finishWrite x = complete .unit x.2 := by
  obtain ⟨x, s⟩ := x
  cases x with
  | failed place => exact .inl ⟨_, rfl⟩
  | response r => exact .inr rfl

/-- An upload frame aborts the upload with a transport error, or moves the sequencer on
(spec/42_firmware_upload.md R158, R159). -/
theorem finishUpload_cases (advance : State → State) (x : Exchange × State) :
    (∃ place, finishUpload advance x = abortUpload (.transport place) x.2) ∨ finishUpload advance x = advance x.2 := by
  obtain ⟨x, s⟩ := x
  cases x with
  | failed place => exact .inl ⟨_, rfl⟩
  | response r => exact .inr rfl

end Sys2Proof.Machine
end

