-- ==== Sys2Proof/Laws/PerInstr.lean ====
section
/-! SUPPORT. Statements about every instruction as syntax, one lemma per constructor: the bytes of an instruction against
its row of spec/opcode_table.json. -/

namespace Sys2Proof.Laws

open Sys2Proof.Machine

/-- The fixed bytes of a request's row: the `match` column of spec/opcode_table.json, header first. -/
def FrameShape.fixedBytes : Instr → Bytes
  | .getAtt => [0x10, 0x00, 0x01, 0x00]
  | .getTempAc => [0x10, 0x00, 0x01, 0x01]
  | .getTempBd => [0x10, 0x00, 0x01, 0x02]
  | .getSpAc => [0x10, 0x00, 0x01, 0x03]
  | .getSpBd => [0x10, 0x00, 0x01, 0x04]
  | .getTcs => [0x10, 0x00, 0x01, 0x05]
  | .getHeatAc => [0x10, 0x00, 0x01, 0x06]
  | .getHeatBd => [0x10, 0x00, 0x01, 0x07]
  | .getVersion => [0x10, 0x00, 0x01, 0x0B]
  | .getPidAcKc => [0x10, 0x00, 0x01, 0x0C]
  | .getPidAcTi => [0x10, 0x00, 0x01, 0x0D]
  | .getPidAcTd => [0x10, 0x00, 0x01, 0x0E]
  | .getPidBdKc => [0x10, 0x00, 0x01, 0x0F]
  | .getPidBdTi => [0x10, 0x00, 0x01, 0x10]
  | .getPidBdTd => [0x10, 0x00, 0x01, 0x11]
  | .getMac => [0x10, 0x00, 0x01, 0x13]
  | .setAtt _ => [0x20, 0x00, 0x09, 0x00]
  | .setSpAc _ => [0x20, 0x00, 0x09, 0x03]
  | .setSpBd _ => [0x20, 0x00, 0x09, 0x04]
  | .setTcs _ => [0x20, 0x00, 0x02, 0x05]
  | .setHeatAc _ => [0x20, 0x00, 0x09, 0x06]
  | .setHeatBd _ => [0x20, 0x00, 0x09, 0x07]
  | .reset => [0x20, 0x00, 0x02, 0x08, 0x01]
  | .fwBegin => [0x20, 0x00, 0x02, 0x09, 0x01]
  | .fwEnd => [0x20, 0x00, 0x02, 0x09, 0x02]
  | .fwVersion _ _ _ => [0x20, 0x00, 0x81, 0x0A]
  | .fwChunk _ => [0x20, 0x00, 0x81, 0x0A]
  | .setPidAcKc _ => [0x20, 0x00, 0x09, 0x0C]
  | .setPidAcTi _ => [0x20, 0x00, 0x09, 0x0D]
  | .setPidAcTd _ => [0x20, 0x00, 0x09, 0x0E]
  | .setPidBdKc _ => [0x20, 0x00, 0x09, 0x0F]
  | .setPidBdTi _ => [0x20, 0x00, 0x09, 0x10]
  | .setPidBdTd _ => [0x20, 0x00, 0x09, 0x11]
  | .setIp _ => [0x20, 0x00, 0x11, 0x12]
  | .rspF64 _ => []
  | .rspU8 _ => []
  | .rspB7 _ => []
  | .rspB17 _ => []
  | .ack _ => []

/-- The length of a request's row: the `length` column of spec/opcode_table.json; for a response the least length. -/
def FrameShape.rowLength : Instr → Nat
  | .getAtt => 4
  | .getTempAc => 4
  | .getTempBd => 4
  | .getSpAc => 4
  | .getSpBd => 4
  | .getTcs => 4
  | .getHeatAc => 4
  | .getHeatBd => 4
  | .getVersion => 4
  | .getPidAcKc => 4
  | .getPidAcTi => 4
  | .getPidAcTd => 4
  | .getPidBdKc => 4
  | .getPidBdTi => 4
  | .getPidBdTd => 4
  | .getMac => 4
  | .setAtt _ => 12
  | .setSpAc _ => 12
  | .setSpBd _ => 12
  | .setTcs _ => 5
  | .setHeatAc _ => 12
  | .setHeatBd _ => 12
  | .reset => 5
  | .fwBegin => 5
  | .fwEnd => 5
  | .fwVersion _ _ _ => 132
  | .fwChunk _ => 132
  | .setPidAcKc _ => 12
  | .setPidAcTi _ => 12
  | .setPidAcTd _ => 12
  | .setPidBdKc _ => 12
  | .setPidBdTi _ => 12
  | .setPidBdTd _ => 12
  | .setIp _ => 20
  | .rspF64 _ => 11
  | .rspU8 _ => 4
  | .rspB7 _ => 10
  | .rspB17 _ => 20
  | .ack _ => 0

/-- The bytes of a well-formed request are as many as its row says and begin with its row's fixed bytes; the bytes of a
response are no more than one receive returns. -/
def FrameShape.Statement (i : Instr) : Prop :=
  WellFormed i = true →
    if i.isRequest then
      (encode i).length = FrameShape.rowLength i ∧ (encode i).take (FrameShape.fixedBytes i).length = FrameShape.fixedBytes i
    else (encode i).length ≤ 1024

/-- A write frame whose payload length is in the table has four header bytes and then its payload. -/
theorem writeFrame_shape {r : Reg} {payload : Bytes} {len : Byte} (h : lenByte payload.length = some len) :
    (writeFrame r payload).length = 4 + payload.length ∧
      (writeFrame r payload).take 4 = [clsWrite, hdr1, len, r.id] := by
  rw [writeFrame_eq h]
  constructor
  · simp only [List.length_append, List.length_cons, List.length_nil]
  · rfl

theorem FrameShape.getAtt : FrameShape.Statement .getAtt := fun _ => ⟨rfl, rfl⟩
theorem FrameShape.getTempAc : FrameShape.Statement .getTempAc := fun _ => ⟨rfl, rfl⟩
theorem FrameShape.getTempBd : FrameShape.Statement .getTempBd := fun _ => ⟨rfl, rfl⟩
theorem FrameShape.getSpAc : FrameShape.Statement .getSpAc := fun _ => ⟨rfl, rfl⟩
theorem FrameShape.getSpBd : FrameShape.Statement .getSpBd := fun _ => ⟨rfl, rfl⟩
theorem FrameShape.getTcs : FrameShape.Statement .getTcs := fun _ => ⟨rfl, rfl⟩
theorem FrameShape.getHeatAc : FrameShape.Statement .getHeatAc := fun _ => ⟨rfl, rfl⟩
theorem FrameShape.getHeatBd : FrameShape.Statement .getHeatBd := fun _ => ⟨rfl, rfl⟩
theorem FrameShape.getVersion : FrameShape.Statement .getVersion := fun _ => ⟨rfl, rfl⟩
theorem FrameShape.getPidAcKc : FrameShape.Statement .getPidAcKc := fun _ => ⟨rfl, rfl⟩
theorem FrameShape.getPidAcTi : FrameShape.Statement .getPidAcTi := fun _ => ⟨rfl, rfl⟩
theorem FrameShape.getPidAcTd : FrameShape.Statement .getPidAcTd := fun _ => ⟨rfl, rfl⟩
theorem FrameShape.getPidBdKc : FrameShape.Statement .getPidBdKc := fun _ => ⟨rfl, rfl⟩
theorem FrameShape.getPidBdTi : FrameShape.Statement .getPidBdTi := fun _ => ⟨rfl, rfl⟩
theorem FrameShape.getPidBdTd : FrameShape.Statement .getPidBdTd := fun _ => ⟨rfl, rfl⟩
theorem FrameShape.getMac : FrameShape.Statement .getMac := fun _ => ⟨rfl, rfl⟩
theorem FrameShape.setAtt (v : Word64) : FrameShape.Statement (.setAtt v) := fun _ => ⟨rfl, rfl⟩
theorem FrameShape.setSpAc (v : Word64) : FrameShape.Statement (.setSpAc v) := fun _ => ⟨rfl, rfl⟩
theorem FrameShape.setSpBd (v : Word64) : FrameShape.Statement (.setSpBd v) := fun _ => ⟨rfl, rfl⟩
theorem FrameShape.setTcs (v : Int) : FrameShape.Statement (.setTcs v) := fun _ => ⟨rfl, rfl⟩
theorem FrameShape.setHeatAc (v : Word64) : FrameShape.Statement (.setHeatAc v) := fun _ => ⟨rfl, rfl⟩
theorem FrameShape.setHeatBd (v : Word64) : FrameShape.Statement (.setHeatBd v) := fun _ => ⟨rfl, rfl⟩
theorem FrameShape.reset : FrameShape.Statement .reset := fun _ => ⟨rfl, rfl⟩
theorem FrameShape.fwBegin : FrameShape.Statement .fwBegin := fun _ => ⟨rfl, rfl⟩
theorem FrameShape.fwEnd : FrameShape.Statement .fwEnd := fun _ => ⟨rfl, rfl⟩
theorem FrameShape.fwVersion (major : Byte) (minor : Byte) (patch : Byte) : FrameShape.Statement (.fwVersion major minor patch) := fun _ => by
  have hl := versionPayload_length major minor patch
  have hs := writeFrame_shape (r := .fwData) (payload := versionPayload major minor patch) (len := 0x81) (by rw [hl]; rfl)
  exact ⟨by rw [show encode (.fwVersion major minor patch) = writeFrame .fwData (versionPayload major minor patch) from rfl,
    hs.1, hl]; rfl, hs.2⟩
theorem FrameShape.fwChunk (c : Bytes) : FrameShape.Statement (.fwChunk c) := fun h => by
  have hc : c.length ≤ chunkSize := by simp [WellFormed] at h; exact h.2
  have hl : (chunkPayload c).length = 128 := chunkPayload_length hc
  have hs := writeFrame_shape (r := .fwData) (payload := chunkPayload c) (len := 0x81) (by rw [hl]; rfl)
  exact ⟨by rw [show encode (.fwChunk c) = writeFrame .fwData (chunkPayload c) from rfl, hs.1, hl]; rfl, hs.2⟩
theorem FrameShape.setPidAcKc (v : Word64) : FrameShape.Statement (.setPidAcKc v) := fun _ => ⟨rfl, rfl⟩
theorem FrameShape.setPidAcTi (v : Word64) : FrameShape.Statement (.setPidAcTi v) := fun _ => ⟨rfl, rfl⟩
theorem FrameShape.setPidAcTd (v : Word64) : FrameShape.Statement (.setPidAcTd v) := fun _ => ⟨rfl, rfl⟩
theorem FrameShape.setPidBdKc (v : Word64) : FrameShape.Statement (.setPidBdKc v) := fun _ => ⟨rfl, rfl⟩
theorem FrameShape.setPidBdTi (v : Word64) : FrameShape.Statement (.setPidBdTi v) := fun _ => ⟨rfl, rfl⟩
theorem FrameShape.setPidBdTd (v : Word64) : FrameShape.Statement (.setPidBdTd v) := fun _ => ⟨rfl, rfl⟩
theorem FrameShape.setIp (a : Bytes) : FrameShape.Statement (.setIp a) := fun h => by
  have hl : (ipPayload a).length = 16 := ipPayload_length (by simpa [WellFormed] using h)
  have hs := writeFrame_shape (r := .ip) (payload := ipPayload a) (len := 0x11) (by rw [hl]; rfl)
  exact ⟨by rw [show encode (.setIp a) = writeFrame .ip (ipPayload a) from rfl, hs.1, hl]; rfl, hs.2⟩
theorem FrameShape.rspF64 (r : Bytes) : FrameShape.Statement (.rspF64 r) := fun h => by simpa [WellFormed, Instr.isRequest, encode] using h
theorem FrameShape.rspU8 (r : Bytes) : FrameShape.Statement (.rspU8 r) := fun h => by simpa [WellFormed, Instr.isRequest, encode] using h
theorem FrameShape.rspB7 (r : Bytes) : FrameShape.Statement (.rspB7 r) := fun h => by simpa [WellFormed, Instr.isRequest, encode] using h
theorem FrameShape.rspB17 (r : Bytes) : FrameShape.Statement (.rspB17 r) := fun h => by simpa [WellFormed, Instr.isRequest, encode] using h
theorem FrameShape.ack (r : Bytes) : FrameShape.Statement (.ack r) := fun h => by simpa [WellFormed, Instr.isRequest, encode] using h

end Sys2Proof.Laws
end

