-- ==== Sys2Proof/Tests/Slice0.lean ====
section
/-! SUPPORT. Tests: ill-formed instructions, written-out frames, the vectors of spec/95_test_vectors.md, and for every
statement with hypotheses a concrete case that meets them. -/

namespace Sys2Proof.Tests

open Sys2Proof.Machine Sys2Proof.Safety

/-! ### Helpers -/

/-- The block after construction, with the environment's next answers listed. -/
def ready (sa : List Reply) (ra : List RecvAnswer) : State :=
  { State.reset with sendAnswers := sa, recvAnswers := ra }

/-- The block after construction, with commands to accept. -/
def given (cs : List Command) : State :=
  { State.reset with pending := cs }

/-- An upload of `image` in progress, with the environment's next answers listed. -/
def uploading (st : FwState) (off : Nat) (image : Bytes) (sa : List Reply) (ra : List RecvAnswer) : State :=
  { State.reset with
    busy := true, fwState := st, imgOff := off, sendAnswers := sa, recvAnswers := ra,
    upload := some { major := 1, minor := 2, patch := 3, image := image } }

/-- The state a step answers, the given one where it stops. -/
def after (o : Host.Outcome State Fault Refusal) (s : State) : State :=
  match o with
  | .next t => t
  | .fault _ | .refused _ => s

/-- A response: the prefix of the spec's simulated device and a value. -/
def response (value : Bytes) : Bytes := [0xAA, 0xBB, 0xCC] ++ value

/-! ### What is not well-formed (one for each check) -/

/-- spec/95_test_vectors.md V-D33: 32.0. -/
theorem test_wellformed_refuses_attenuation : WellFormed (.setAtt 0x4040000000000000) = false := by decide +kernel
/-- V-D42, V-D43. -/
theorem test_wellformed_refuses_status : WellFormed (.setTcs 2) = false ∧ WellFormed (.setTcs (-1)) = false := by decide
/-- V-D53: 17 bytes. -/
theorem test_wellformed_refuses_address : WellFormed (.setIp (.replicate 17 0x31)) = false := by decide
/-- spec/30_encoding.md R60: an empty chunk, and one of 129 bytes. -/
theorem test_wellformed_refuses_chunk :
    WellFormed (.fwChunk []) = false ∧ WellFormed (.fwChunk (.replicate 129 0)) = false := by decide +kernel
/-- spec/30_encoding.md R54: more than one receive can return. -/
theorem test_wellformed_refuses_response :
    WellFormed (.rspF64 (.replicate 1025 0)) = false ∧ WellFormed (.rspU8 (.replicate 1025 0)) = false ∧
    WellFormed (.rspB7 (.replicate 1025 0)) = false ∧ WellFormed (.rspB17 (.replicate 1025 0)) = false ∧
    WellFormed (.ack (.replicate 1025 0)) = false := by
  decide +kernel

/-! ### Written-out frames: every constructor's, from the opcode map of spec/30_encoding.md R62 -/

theorem test_decode_getAtt : decodeRequest .idle [0x10, 0x00, 0x01, 0x00] = .ok .getAtt := rfl
theorem test_decode_getTempAc : decodeRequest .idle [0x10, 0x00, 0x01, 0x01] = .ok .getTempAc := rfl
theorem test_decode_getTempBd : decodeRequest .idle [0x10, 0x00, 0x01, 0x02] = .ok .getTempBd := rfl
theorem test_decode_getSpAc : decodeRequest .idle [0x10, 0x00, 0x01, 0x03] = .ok .getSpAc := rfl
theorem test_decode_getSpBd : decodeRequest .idle [0x10, 0x00, 0x01, 0x04] = .ok .getSpBd := rfl
theorem test_decode_getTcs : decodeRequest .idle [0x10, 0x00, 0x01, 0x05] = .ok .getTcs := rfl
theorem test_decode_getHeatAc : decodeRequest .idle [0x10, 0x00, 0x01, 0x06] = .ok .getHeatAc := rfl
theorem test_decode_getHeatBd : decodeRequest .idle [0x10, 0x00, 0x01, 0x07] = .ok .getHeatBd := rfl
theorem test_decode_getVersion : decodeRequest .idle [0x10, 0x00, 0x01, 0x0B] = .ok .getVersion := rfl
theorem test_decode_getPidAcKc : decodeRequest .idle [0x10, 0x00, 0x01, 0x0C] = .ok .getPidAcKc := rfl
theorem test_decode_getPidAcTi : decodeRequest .idle [0x10, 0x00, 0x01, 0x0D] = .ok .getPidAcTi := rfl
theorem test_decode_getPidAcTd : decodeRequest .idle [0x10, 0x00, 0x01, 0x0E] = .ok .getPidAcTd := rfl
theorem test_decode_getPidBdKc : decodeRequest .idle [0x10, 0x00, 0x01, 0x0F] = .ok .getPidBdKc := rfl
theorem test_decode_getPidBdTi : decodeRequest .idle [0x10, 0x00, 0x01, 0x10] = .ok .getPidBdTi := rfl
theorem test_decode_getPidBdTd : decodeRequest .idle [0x10, 0x00, 0x01, 0x11] = .ok .getPidBdTd := rfl
theorem test_decode_getMac : decodeRequest .idle [0x10, 0x00, 0x01, 0x13] = .ok .getMac := rfl

/-- V-D101: 10.5. -/
theorem test_decode_setAtt : decodeRequest .idle [0x20, 0x00, 0x09, 0x00, 0, 0, 0, 0, 0, 0, 0x25, 0x40] =
    .ok (.setAtt 0x4025000000000000) := rfl
/-- V-D105: 25.0. -/
theorem test_decode_setSpAc : decodeRequest .idle [0x20, 0x00, 0x09, 0x03, 0, 0, 0, 0, 0, 0, 0x39, 0x40] =
    .ok (.setSpAc 0x4039000000000000) := rfl
/-- 0.1 (the value of V-D15): eight bytes that are not alike. -/
theorem test_decode_setSpBd :
    decodeRequest .idle [0x20, 0x00, 0x09, 0x04, 0x9A, 0x99, 0x99, 0x99, 0x99, 0x99, 0xB9, 0x3F] =
    .ok (.setSpBd 0x3FB999999999999A) := rfl
/-- V-D41. -/
theorem test_decode_setTcs : decodeRequest .idle [0x20, 0x00, 0x02, 0x05, 0x01] = .ok (.setTcs 1) := rfl
/-- V-D111: 2.5. -/
theorem test_decode_setHeatAc : decodeRequest .idle [0x20, 0x00, 0x09, 0x06, 0, 0, 0, 0, 0, 0, 0x04, 0x40] =
    .ok (.setHeatAc 0x4004000000000000) := rfl
/-- V-D113: -0.5. -/
theorem test_decode_setHeatBd : decodeRequest .idle [0x20, 0x00, 0x09, 0x07, 0, 0, 0, 0, 0, 0, 0xE0, 0xBF] =
    .ok (.setHeatBd 0xBFE0000000000000) := rfl
/-- V-D114. -/
theorem test_decode_reset : decodeRequest .idle [0x20, 0x00, 0x02, 0x08, 0x01] = .ok .reset := rfl
/-- V-D117: 100.0. -/
theorem test_decode_setPidAcKc : decodeRequest .idle [0x20, 0x00, 0x09, 0x0C, 0, 0, 0, 0, 0, 0, 0x59, 0x40] =
    .ok (.setPidAcKc 0x4059000000000000) := rfl
/-- V-D119: 63.0. -/
theorem test_decode_setPidAcTi : decodeRequest .idle [0x20, 0x00, 0x09, 0x0D, 0, 0, 0, 0, 0, 0x80, 0x4F, 0x40] =
    .ok (.setPidAcTi 0x404F800000000000) := rfl
/-- V-D121: 0.25. -/
theorem test_decode_setPidAcTd : decodeRequest .idle [0x20, 0x00, 0x09, 0x0E, 0, 0, 0, 0, 0, 0, 0xD0, 0x3F] =
    .ok (.setPidAcTd 0x3FD0000000000000) := rfl
/-- V-D123: 16.0. -/
theorem test_decode_setPidBdKc : decodeRequest .idle [0x20, 0x00, 0x09, 0x0F, 0, 0, 0, 0, 0, 0, 0x30, 0x40] =
    .ok (.setPidBdKc 0x4030000000000000) := rfl
/-- V-D125: 1.5. -/
theorem test_decode_setPidBdTi : decodeRequest .idle [0x20, 0x00, 0x09, 0x10, 0, 0, 0, 0, 0, 0, 0xF8, 0x3F] =
    .ok (.setPidBdTi 0x3FF8000000000000) := rfl
/-- V-D127: 0.0. -/
theorem test_decode_setPidBdTd : decodeRequest .idle [0x20, 0x00, 0x09, 0x11, 0, 0, 0, 0, 0, 0, 0, 0] =
    .ok (.setPidBdTd 0) := rfl
/-- V-D128: the padded text 10.0.18.59. -/
theorem test_decode_setIp :
    decodeRequest .idle ([0x20, 0x00, 0x11, 0x12] ++
      [0x31, 0x30, 0x2E, 0x30, 0x2E, 0x31, 0x38, 0x2E, 0x35, 0x39, 0, 0, 0, 0, 0, 0]) =
    .ok (.setIp [0x31, 0x30, 0x2E, 0x30, 0x2E, 0x31, 0x38, 0x2E, 0x35, 0x39, 0, 0, 0, 0, 0, 0]) := rfl
/-- spec/95_test_vectors.md section 2.6, the frames: "10.20.30". -/
theorem test_decode_fwVersion :
    decodeRequest .idle ([0x20, 0x00, 0x81, 0x0A, 0x0A, 0x14, 0x1E] ++ List.replicate 125 0x00) =
    .ok (.fwVersion 10 20 30) := by decide +kernel
/-- V-S5. -/
theorem test_decode_fwBegin : decodeRequest .versionSent [0x20, 0x00, 0x02, 0x09, 0x01] = .ok .fwBegin := rfl
/-- Section 2.6, the frames: the one byte 5A. -/
theorem test_decode_fwChunk :
    decodeRequest .uploading ([0x20, 0x00, 0x81, 0x0A, 0x5A] ++ List.replicate 127 0xFF) =
    .ok (.fwChunk (0x5A :: List.replicate 127 0xFF)) := by decide +kernel
/-- V-S6. -/
theorem test_decode_fwEnd : decodeRequest .uploading [0x20, 0x00, 0x02, 0x09, 0x02] = .ok .fwEnd := rfl
/-- Responses, by the format the outstanding request selects (R55). -/
theorem test_decode_responses :
    decodeResponse .f64 (response [0, 0, 0, 0, 0, 0xC0, 0x42, 0x40]) =
      .ok (.rspF64 [0xAA, 0xBB, 0xCC, 0, 0, 0, 0, 0, 0xC0, 0x42, 0x40]) ∧
    decodeResponse .u8 (response [0x01]) = .ok (.rspU8 [0xAA, 0xBB, 0xCC, 0x01]) ∧
    decodeResponse .b7 (response [0x56, 0x31, 0x5F, 0x32, 0x5F, 0x33, 0x00]) =
      .ok (.rspB7 [0xAA, 0xBB, 0xCC, 0x56, 0x31, 0x5F, 0x32, 0x5F, 0x33, 0x00]) ∧
    decodeResponse .b17 (response (.replicate 17 0x30)) = .ok (.rspB17 ([0xAA, 0xBB, 0xCC] ++ .replicate 17 0x30)) ∧
    decodeResponse .ack [] = .ok (.ack []) := ⟨rfl, rfl, rfl, rfl, rfl⟩

/-- The same 132 bytes are the version "0.0.0" or a chunk of zeros, by the position in the sequence alone
(section 2.6). -/
theorem test_decode_by_position :
    decodeRequest .idle ([0x20, 0x00, 0x81, 0x0A] ++ List.replicate 128 0x00) = .ok (.fwVersion 0 0 0) ∧
    decodeRequest .uploading ([0x20, 0x00, 0x81, 0x0A] ++ List.replicate 128 0x00) =
      .ok (.fwChunk (List.replicate 128 0x00)) := by decide +kernel
/-- V-D209, R63: directions, ids, classes and lengths outside the map. -/
theorem test_decode_refuses :
    decodeRequest .idle [0x10, 0x00, 0x01, 0x12] = .error (.notReadable 0x12) ∧
    decodeRequest .idle [0x20, 0x00, 0x02, 0x01, 0x01] = .error (.notWritable 0x01) ∧
    decodeRequest .idle [0x10, 0x00, 0x01, 0x14] = .error (.notInCatalog 0x14) ∧
    decodeRequest .idle [0x30, 0x00, 0x01, 0x00] = .error (.badClass 0x30) ∧
    decodeRequest .idle [0x10, 0x01, 0x01, 0x00] = .error (.badHeader1 0x01) ∧
    decodeRequest .idle [0x20, 0x00, 0x04, 0x05, 0x01] = .error (.badLength 0x04) ∧
    decodeRequest .idle [0x20, 0x00, 0x02, 0x08, 0x02] = .error (.badPayload 0x08) ∧
    decodeRequest .idle [0x10, 0x00, 0x01] = .error .shortHeader := ⟨rfl, rfl, rfl, rfl, rfl, rfl, rfl, rfl⟩

/-- The number of a table row, bit 0 in byte 0, and in the order of the table's hexadecimal; and its first step from
reset. -/
theorem test_table_word :
    decodeTableWord 32 0x10010010 = some .getPidBdTi ∧ decodeTableWord 32 0x10000110 = some .getPidBdTi ∧
    decodeTableWord 40 0x0108020020 = some .reset := by decide +kernel
theorem test_table_word_steps :
    step (State.reset.withFetchWord 32 0x00010010) = exec .getAtt State.reset := rfl

/-! ### Vectors of spec/95_test_vectors.md -/

/-- V-D7: no frame for payloads of 0, 2 and 127 bytes; V-D5: length byte 0x11. -/
theorem test_encWrite_lengths :
    encWrite 0x00 [] = none ∧ encWrite 0x00 [0, 0] = none ∧ encWrite 0x0A (.replicate 127 0) = none ∧
    encWrite 0x12 (.replicate 16 0) = some ([0x20, 0x00, 0x11, 0x12] ++ List.replicate 16 0) := by decide +kernel
/-- V-D8, V-D9: negative zero, and a NaN pattern that survives. -/
theorem test_pack : le64 0x8000000000000000 = [0, 0, 0, 0, 0, 0, 0, 0x80] ∧
    le64 (unle64 [0x01, 0, 0, 0, 0, 0, 0xF8, 0x7F]) = [0x01, 0, 0, 0, 0, 0, 0xF8, 0x7F] := by decide +kernel
/-- V-D12, V-D13, V-D14. -/
theorem test_decFloat :
    decFloat (response [0, 0, 0, 0, 0, 0xC0, 0x42]) = .error (.shortResponse 11 10) ∧
    decFloat (response [0, 0, 0, 0, 0, 0xC0, 0x42, 0x40]) = .ok 0x4042C00000000000 ∧
    decFloat (response [0, 0, 0, 0, 0, 0xA0, 0x46, 0x40, 0x99, 0x99]) = .ok 0x4046A00000000000 := ⟨rfl, rfl, rfl⟩
/-- V-D16, V-D18. -/
theorem test_decByte : decByte (response []) = .error (.shortResponse 4 3) ∧
    decByte (response [0xFF, 0x00]) = .ok 0xFF := ⟨rfl, rfl⟩
/-- V-D19, V-D20. -/
theorem test_decBytes : decBytes (.replicate 9 0) 7 = .error (.shortResponse 10 9) ∧
    decBytes (response [0x56, 0x31, 0x5F, 0x32, 0x5F, 0x33, 0x00]) 7 =
      .ok [0x56, 0x31, 0x5F, 0x32, 0x5F, 0x33, 0x00] := ⟨rfl, rfl⟩
/-- V-D60 to V-D77, one of each kind. -/
theorem test_parseVersion :
    parseVersion "1.2_3".toList = .ok (1, 2, 3) ∧ parseVersion "255.255.255".toList = .ok (255, 255, 255) ∧
    parseVersion "01.002.3".toList = .ok (1, 2, 3) ∧
    parseVersion "256.0.0".toList = .error (.invalidArgument .versionComponent) ∧
    parseVersion "1.2".toList = .error .invalidVersionFormat ∧
    parseVersion "1..3".toList = .error .invalidVersionFormat ∧
    parseVersion "".toList = .error .invalidVersionFormat ∧
    parseVersion " 1.2.3".toList = .error .invalidVersionFormat ∧
    parseVersion "-1.2.3".toList = .error .invalidVersionFormat ∧
    parseVersion "300.x.1".toList = .error .invalidVersionFormat := by decide +kernel
/-- V-D30 to V-D39, but for negative zero. -/
theorem test_attenuations :
    attSet.contains 0 = true ∧ attSet.contains 0x3FE0000000000000 = true ∧ attSet.contains 0x403F800000000000 = true ∧
    attSet.contains 0x402E000000000000 = true ∧ attSet.contains 0x4040000000000000 = false ∧
    attSet.contains 0x3FD0000000000000 = false ∧ attSet.contains 0x403F7FFFFFFFFFFF = false := by decide +kernel
/-- V-D100: the value, and the request sent. -/
theorem test_getAtt :
    (after (exec .getAtt (ready [.ok] [.ok (response [0, 0, 0, 0, 0, 0, 0x25, 0x40])])) State.reset).results =
      [.ok (.f64 0x4025000000000000)] ∧
    (after (exec .getAtt (ready [.ok] [.ok (response [0, 0, 0, 0, 0, 0, 0x25, 0x40])])) State.reset).history.drop 3 =
      [.send [0x10, 0x00, 0x01, 0x00] .ok, .recv 1024 (.ok (response [0, 0, 0, 0, 0, 0, 0x25, 0x40]))] := ⟨rfl, rfl⟩
/-- V-D45: returned as it is. -/
theorem test_getTcs : (after (exec .getTcs (ready [.ok] [.ok (response [2])])) State.reset).results = [.ok (.u8 2)] := rfl
/-- V-D57. -/
theorem test_getMac : (after (exec .getMac (ready [.ok] [.ok (.replicate 19 0)])) State.reset).results =
    [.error (.shortResponse 20 19)] := rfl
/-- V-D44: compared as an integer, not reduced to a byte. -/
theorem test_setTcs : exec (.setTcs 257) (ready [] []) =
    .next { State.reset with results := [.ok .unit] } := rfl
/-- V-D128: the frame sent. -/
theorem test_setIp :
    (after (exec (.setIp [0x31, 0x30, 0x2E, 0x30, 0x2E, 0x31, 0x38, 0x2E, 0x35, 0x39]) (ready [.ok] [.ok (response [])]))
      State.reset).history.drop 3 =
      [.send ([0x20, 0x00, 0x11, 0x12, 0x31, 0x30, 0x2E, 0x30, 0x2E, 0x31, 0x38, 0x2E, 0x35, 0x39] ++
        [0, 0, 0, 0, 0, 0]) .ok, .recv 1024 (.ok (response []))] := rfl
/-- V-D55: the reset frame whose answer never comes. -/
theorem test_reset_unanswered :
    (after (exec .reset (ready [.ok] [.fail])) State.reset).history.drop 3 =
      [.send [0x20, 0x00, 0x02, 0x08, 0x01] .ok, .recv 1024 .fail] ∧
    (after (exec .reset (ready [.ok] [.fail])) State.reset).results = [.error (.transport .recv)] := ⟨rfl, rfl⟩
/-- V-D93: the second chunk of 300 bytes is read before its send fails, so `img_off` is 256. -/
theorem test_chunk_send_fails :
    (after (step (uploading .uploading 128 (.replicate 300 0x77) [.fail] [])) State.reset).imgOff = 256 ∧
    (after (step (uploading .uploading 128 (.replicate 300 0x77) [.fail] [])) State.reset).fwState = .aborted := by
  decide +kernel
/-- V-D94: the unanswered end frame aborts. -/
theorem test_end_unanswered :
    (after (step (uploading .uploading 300 (.replicate 300 0x77) [.ok] [.fail])) State.reset).fwState = .aborted := by
  decide +kernel
/-- V-D80: an empty image goes from the begin frame to the end frame. -/
theorem test_empty_image : nextFrame (uploading .uploading 0 [] [] []) = some .fwEnd := rfl
/-- V-D207: the second close leaves no event. -/
theorem test_close_twice :
    (after (step (after (step (given [.closeBlock, .closeBlock])) State.reset)) State.reset).history.drop 3 = [.close] := rfl

/-! ### For every statement with hypotheses, a case that meets them -/

theorem witness_WriteRequestLayout : encWrite 0x05 [0x01] = some [0x20, 0x00, 0x02, 0x05, 0x01] := rfl
theorem witness_WriteEncoderLiteralLengths :
    ([0x01] : Bytes).length = 1 ∧ (le64 0).length = 8 ∧ (chunkPayload [0x5A]).length = 128 := by decide +kernel
theorem witness_WriteEncoderSixteenAndRefusals :
    (ipPayload []).length = 16 ∧ ([] : Bytes).length ∉ [1, 8, 16, 128] ∧
    (List.replicate 129 (0 : Byte)).length ∉ [1, 8, 16, 128] ∧
    encWrite 0x05 [0x01] = some [0x20, 0x00, 0x02, 0x05, 0x01] := by decide +kernel
theorem witness_PackUnpackFloatRoundTrip : ([0x01, 0, 0, 0, 0, 0, 0xF8, 0x7F] : Bytes).length = 8 := rfl
theorem witness_ChunkPayloadIsPaddedWithOnes :
    (1 ≤ ([0x5A] : Bytes).length ∧ ([0x5A] : Bytes).length ≤ 128) ∧
    (1 ≤ (List.replicate 128 (0 : Byte)).length ∧ (List.replicate 128 (0 : Byte)).length ≤ 128) ∧
    (uploading .uploading 1 [0x5A] [] []).created = true ∧ (uploading .uploading 1 [0x5A] [] []).conn = .opened ∧
    (uploading .uploading 1 [0x5A] [] []).busy = true ∧ (uploading .uploading 1 [0x5A] [] []).awaiting = false ∧
    (uploading .uploading 1 [0x5A] [] []).upload = some { major := 1, minor := 2, patch := 3, image := [0x5A] } ∧
    (uploading .uploading 1 [0x5A] [] []).fwState = .uploading ∧ imgRead [0x5A] 1 128 = [] := by decide +kernel
/-- A string that parses, and one out of range. -/
theorem witness_ThreeDecimalComponentsParse :
    isVersionSeparator '.' = true ∧ isVersionSeparator '_' = true ∧
    isDecimal "255".toList = true ∧ isDecimal "256".toList = true ∧ isDecimal "0".toList = true := by decide +kernel
theorem witness_OtherVersionStringsAreFormatErrors :
    "1.2".toList.countP isVersionSeparator ≠ 2 ∧ "".toList.countP isVersionSeparator ≠ 2 ∧
    "1.2.3.4".toList.countP isVersionSeparator ≠ 2 ∧ isVersionSeparator ',' = true ∧ isVersionSeparator ' ' = true ∧
    "1".toList.any isVersionSeparator = false ∧ "".toList.any isVersionSeparator = false ∧
    "3b".toList.any isVersionSeparator = false ∧
    ¬ (isDecimal "1".toList = true ∧ isDecimal "".toList = true ∧ isDecimal "3b".toList = true) := by decide +kernel
theorem witness_FloatReadsReturnTheValue :
    (Instr.getAtt, (0x00 : Byte)) ∈ floatReads ∧
    Ready (ready [.ok] [.ok (.replicate 11 0)]) ∧ (ready [.ok] [.ok (.replicate 11 0)]).cfg.rxMax = 1024 ∧
    (ready [.ok] [.ok (.replicate 11 0)]).sendAnswers = .ok :: [] ∧
    (ready [.ok] [.ok (.replicate 11 0)]).recvAnswers = .ok (.replicate 11 0) :: [] ∧
    11 ≤ (List.replicate 11 (0 : Byte)).length ∧ (List.replicate 11 (0 : Byte)).length ≤ 1024 := by decide
/-- A response of the full 1024 bytes is as good (V-D58). -/
theorem witness_longest_response : (List.replicate 1024 (0 : Byte)).length ≤ 1024 := by decide +kernel
theorem witness_StatusReadReturnsTheByte :
    Ready (ready [.ok] [.ok (response [2])]) ∧ (ready [.ok] [.ok (response [2])]).cfg.rxMax = 1024 ∧
    (ready [.ok] [.ok (response [2])]).sendAnswers = .ok :: [] ∧
    (ready [.ok] [.ok (response [2])]).recvAnswers = .ok (response [2]) :: [] ∧
    4 ≤ (response [2]).length ∧ (response [2]).length ≤ 1024 := by decide
/-- The least lengths of both, 10 and 20. -/
theorem witness_IdentifierReadsReturnTheBytes :
    Ready (ready [.ok] [.ok (.replicate 20 0)]) ∧ (ready [.ok] [.ok (.replicate 20 0)]).cfg.rxMax = 1024 ∧
    (ready [.ok] [.ok (.replicate 20 0)]).sendAnswers = .ok :: [] ∧
    (ready [.ok] [.ok (.replicate 20 0)]).recvAnswers = .ok (.replicate 20 0) :: [] ∧
    (ready [.ok] [.ok (.replicate 10 0)]).recvAnswers = .ok (.replicate 10 0) :: [] ∧
    20 ≤ (List.replicate 20 (0 : Byte)).length ∧ 10 ≤ (List.replicate 10 (0 : Byte)).length ∧
    (List.replicate 20 (0 : Byte)).length ≤ 1024 := by decide
/-- A failed send, a failed receive, and for each least length the longest response that is too short. -/
theorem witness_ReadsEndWithTheirErrors :
    (Instr.getAtt, (0x00 : Byte), Shape.f64) ∈ reads ∧ (Instr.getMac, (0x13 : Byte), Shape.bytes 17) ∈ reads ∧
    Ready (ready [.fail] []) ∧ (ready [.fail] []).sendAnswers = .fail :: [] ∧ (ready [.fail] []).cfg.rxMax = 1024 ∧
    Ready (ready [.ok] [.fail]) ∧ (ready [.ok] [.fail]).sendAnswers = .ok :: [] ∧
    (ready [.ok] [.fail]).recvAnswers = .fail :: [] ∧
    Ready (ready [.ok] [.ok (.replicate 10 0)]) ∧
    (ready [.ok] [.ok (.replicate 10 0)]).recvAnswers = .ok (.replicate 10 0) :: [] ∧
    (List.replicate 10 (0 : Byte)).length < leastLength .f64 ∧ (List.replicate 3 (0 : Byte)).length < leastLength .u8 ∧
    (List.replicate 9 (0 : Byte)).length < leastLength (.bytes 7) ∧
    (List.replicate 19 (0 : Byte)).length < leastLength (.bytes 17) := by decide
/-- The state of `FloatReadsEndAsTheirRulesSay`, `OtherReadsEndAsTheirRulesSay`, `FloatWritesEndAsTheirRulesSay` and
`WritesEndAsTheirRulesSay`: the block after construction, with no answer listed. -/
theorem witness_reads_and_writes_end :
    (Instr.getPidBdTd, (0x11 : Byte)) ∈ floatReads ∧
    (Instr.setPidBdTd 0x3FB999999999999A, (0x11 : Byte)) ∈ floatWrites 0x3FB999999999999A ∧ Ready State.reset ∧ State.reset.cfg.rxMax = 1024 ∧
    isHostWrite (.setTcs 1) = true ∧ WellFormed (.setTcs 1) = true ∧
    isHostWrite (.setIp []) = true ∧ WellFormed (.setIp []) = true := by decide
theorem witness_ResponsePrefixIsNeverRead :
    (Instr.getTcs, (0x05 : Byte), Shape.u8) ∈ reads ∧ Ready (ready [.ok] []) ∧
    (ready [.ok] []).sendAnswers = .ok :: [] ∧ ([0xAA, 0xBB, 0xCC] : Bytes).length = 3 ∧
    ([0, 0, 0] : Bytes).length = 3 ∧ (ready [.ok] []).cfg.rxMax = 1024 := by decide
/-- One state for every write that is answered: by an empty acknowledgment, or one of 1024 bytes. -/
theorem witness_writes_answered :
    (Instr.setPidAcKc 0x7FF8000000000001, (0x0C : Byte)) ∈ floatWrites 0x7FF8000000000001 ∧
    Ready (ready [.ok] [.ok []]) ∧ (ready [.ok] [.ok []]).cfg.rxMax = 1024 ∧
    (ready [.ok] [.ok []]).sendAnswers = .ok :: [] ∧ (ready [.ok] [.ok []]).recvAnswers = .ok [] :: [] ∧
    ([] : Bytes).length ≤ 1024 := by decide
theorem witness_PermittedAttenuationIsSent : (0x403F800000000000 : Word64) ∈ attSet ∧ (0 : Word64) ∈ attSet := by
  decide +kernel
theorem witness_OtherAttenuationIsInvalid :
    (0x4040000000000000 : Word64) ∉ attSet ∧ (0x4040000000000000 : Word64) ≠ 0x8000000000000000 ∧
    (0x7FF8000000000000 : Word64) ∉ attSet ∧ Ready State.reset := by decide +kernel
theorem witness_StatusWriteSendsZeroAndOneOnly :
    ((0 : Int) = 0 ∨ (0 : Int) = 1) ∧ ((1 : Int) = 0 ∨ (1 : Int) = 1) ∧ ((256 : Int) ≠ 0 ∧ (256 : Int) ≠ 1) ∧
    ((-1 : Int) ≠ 0 ∧ (-1 : Int) ≠ 1) ∧ Ready State.reset := by decide
theorem witness_AddressWriteIsZeroPadded :
    (List.replicate 16 (0x31 : Byte)).length ≤ 16 ∧ ([] : Bytes).length ≤ 16 ∧
    16 < (List.replicate 17 (0x31 : Byte)).length := by decide
theorem witness_AcknowledgmentContentIsIgnored :
    isHostWrite .reset = true ∧ WellFormed .reset = true ∧ Ready (ready [.ok] []) ∧ (ready [.ok] []).cfg.rxMax = 1024 ∧
    (ready [.ok] []).sendAnswers = .ok :: [] ∧ ([] : Bytes).length ≤ 1024 ∧ (response [1, 2, 3]).length ≤ 1024 := by decide
/-- A closed block, a busy one, one with an unanswered request, and none. -/
theorem witness_AccessorsNeedAReadyBlock :
    isAccessor .getAtt = true ∧ isAccessor (.setIp []) = true ∧ (∀ a, Instr.getAtt = .setIp a → a.length ≤ 16) ∧
    (after (step (given [.closeBlock])) State.reset).conn = .closed ∧
    (after (step (given [.closeBlock])) State.reset).created = true ∧
    (after (step (given [.closeBlock])) State.reset).busy = false ∧
    (after (step (given [.closeBlock])) State.reset).awaiting = false ∧
    (uploading .idle 0 [] [] []).busy = true ∧ (uploading .idle 0 [] [] []).created = true ∧
    (sentStep [] (ready [.ok] [])).awaiting = true ∧ State.beforeOpen.created = false :=
  ⟨rfl, rfl, by simp, rfl, rfl, rfl, rfl, rfl, rfl, rfl, rfl⟩
theorem witness_AwaitingSpansSendToReceive : State.reset.awaiting = false := rfl
/-- 1025 bytes, one more than a receive takes, and 2048, the most the statement speaks of. -/
theorem witness_ResidueIsReceivedNext :
    (ready [] [.ok (.replicate 1025 0)]).cfg.rxMax = 1024 ∧
    (ready [] [.ok (.replicate 1025 0)]).recvAnswers = .ok (.replicate 1025 0) :: [] ∧
    1024 < (List.replicate 1025 (0 : Byte)).length ∧ (List.replicate 2048 (0 : Byte)).length ≤ 2048 :=
  ⟨rfl, rfl, by decide +kernel, by decide +kernel⟩
theorem witness_VersionFrameCompletes :
    SendsNext (uploading .idle 0 [] [.ok] [.ok []]) (.fwVersion 1 2 3) ∧
    (uploading .idle 0 [] [.ok] [.ok []]).cfg.rxMax = 1024 ∧
    (uploading .idle 0 [] [.ok] [.ok []]).sendAnswers = .ok :: [] ∧
    (uploading .idle 0 [] [.ok] [.ok []]).recvAnswers = .ok [] :: [] ∧ ([] : Bytes).length ≤ 1024 := by decide
theorem witness_BeginFrameCompletesOrAborts :
    SendsNext (uploading .versionSent 0 [] [.ok] [.ok []]) .fwBegin ∧
    (uploading .versionSent 0 [] [.ok] [.ok []]).cfg.rxMax = 1024 ∧
    (uploading .versionSent 0 [] [.ok] [.ok []]).sendAnswers = .ok :: [] ∧
    (uploading .versionSent 0 [] [.ok] [.ok []]).recvAnswers = .ok [] :: [] ∧
    SendsNext (uploading .versionSent 0 [] [.ok] [.fail]) .fwBegin ∧
    (uploading .versionSent 0 [] [.ok] [.fail]).recvAnswers = .fail :: [] ∧
    SendsNext (uploading .versionSent 0 [] [.fail] []) .fwBegin ∧
    (uploading .versionSent 0 [] [.fail] []).sendAnswers = .fail :: [] := by decide
/-- A chunk of one byte and one of 128. -/
theorem witness_ChunkFrameCompletes :
    SendsNext (uploading .uploading 128 (.replicate 129 0x5A) [.ok] [.ok []]) (.fwChunk [0x5A]) ∧
    SendsNext (uploading .uploading 0 (.replicate 129 0x5A) [.ok] [.ok []]) (.fwChunk (.replicate 128 0x5A)) ∧
    (uploading .uploading 128 (.replicate 129 0x5A) [.ok] [.ok []]).cfg.rxMax = 1024 ∧
    (uploading .uploading 128 (.replicate 129 0x5A) [.ok] [.ok []]).sendAnswers = .ok :: [] ∧
    (uploading .uploading 128 (.replicate 129 0x5A) [.ok] [.ok []]).recvAnswers = .ok [] :: [] := by decide +kernel
theorem witness_EndFrameCompletesOrAborts :
    SendsNext (uploading .uploading 1 [0x5A] [.ok] [.ok []]) .fwEnd ∧
    (uploading .uploading 1 [0x5A] [.ok] [.ok []]).cfg.rxMax = 1024 ∧
    (uploading .uploading 1 [0x5A] [.ok] [.ok []]).sendAnswers = .ok :: [] ∧
    (uploading .uploading 1 [0x5A] [.ok] [.ok []]).recvAnswers = .ok [] :: [] ∧
    SendsNext (uploading .uploading 1 [0x5A] [.ok] [.fail]) .fwEnd ∧
    (uploading .uploading 1 [0x5A] [.ok] [.fail]).recvAnswers = .fail :: [] ∧
    SendsNext (uploading .uploading 1 [0x5A] [.fail] []) .fwEnd ∧
    (uploading .uploading 1 [0x5A] [.fail] []).sendAnswers = .fail :: [] := by decide
theorem witness_UploadStepAbortsExactlyOnTransportErrors :
    SendsNext (uploading .uploading 0 [0x5A] [] []) (.fwChunk [0x5A]) ∧
    (uploading .uploading 0 [0x5A] [] []).cfg.rxMax = 1024 := by decide
/-- The begin frame at rest, and the end frame before the begin frame. -/
theorem witness_UploadFramesOutOfOrderAreRefused :
    isUploadFrame .fwBegin = true ∧ nextFrame State.reset ≠ some .fwBegin ∧
    isUploadFrame .fwEnd = true ∧ nextFrame (uploading .versionSent 0 [] [] []) ≠ some .fwEnd := by decide
theorem witness_UploadIsAcceptedFromAnyState :
    Ready (given [.fwUpload "1.2.3".toList [0x5A]]) ∧
    (given [.fwUpload "1.2.3".toList [0x5A]]).pending = .fwUpload "1.2.3".toList [0x5A] :: [] ∧
    parseVersion "1.2.3".toList = .ok (1, 2, 3) := by decide +kernel
theorem witness_BadVersionEndsInIdleWithNothingSent :
    Ready (given [.fwUpload "1.2".toList []]) ∧
    (given [.fwUpload "1.2".toList []]).pending = .fwUpload "1.2".toList [] :: [] ∧
    parseVersion "1.2".toList = .error .invalidVersionFormat := by decide +kernel

/-- The block with an upload of 129 bytes to accept and five answers listed. -/
def beforeUpload : State :=
  { State.reset with
    pending := [.fwUpload "1.2.3".toList (.replicate 129 0x5A)], sendAnswers := .replicate 5 .ok,
    recvAnswers := .replicate 5 (.ok []) }

/-- 129 bytes: one full chunk and one byte. -/
theorem witness_AnsweredUploadFinalizes :
    Ready beforeUpload ∧ beforeUpload.cfg.rxMax = 1024 ∧
    beforeUpload.pending = .fwUpload "1.2.3".toList (.replicate 129 0x5A) :: [] ∧
    parseVersion "1.2.3".toList = .ok (1, 2, 3) ∧
    (List.replicate 5 ([] : Bytes)).length = 3 + chunkCount (.replicate 129 0x5A) ∧
    (∀ r ∈ List.replicate 5 ([] : Bytes), r.length ≤ 1024) ∧
    beforeUpload.sendAnswers = List.replicate (List.replicate 5 ([] : Bytes)).length .ok ++ [] ∧
    beforeUpload.recvAnswers = (List.replicate 5 ([] : Bytes)).map .ok ++ [] := by decide +kernel
/-- A step that goes on and one that ends the upload. -/
theorem witness_RunningUploadExcludesCommands :
    (uploading .versionSent 0 [] [.ok] [.ok []]).busy = true ∧
    (∃ t, step (uploading .versionSent 0 [] [.ok] [.ok []]) = .next t ∧ t.busy = true) ∧
    (∃ t, step (uploading .versionSent 0 [] [.fail] []) = .next t ∧ t.busy = false) :=
  ⟨rfl, ⟨_, rfl, rfl⟩, ⟨_, rfl, rfl⟩⟩

/-- No block yet, an `OPEN` to accept, and the answer to its `Connect`. -/
def beforeConnect (answer : Reply) : State :=
  { State.beforeOpen with pending := [.openBlock "10.0.18.59".toList 9000], connectAnswers := [answer] }

theorem witness_OpenConstructsTheBlock :
    (beforeConnect .ok).created = false ∧ (beforeConnect .ok).busy = false ∧
    (beforeConnect .ok).pending = .openBlock "10.0.18.59".toList 9000 :: [] ∧
    (beforeConnect .ok).connectAnswers = .ok :: [] ∧ (beforeConnect .fail).created = false ∧
    (beforeConnect .fail).connectAnswers = .fail :: [] := by decide
/-- Open, and already closed. -/
theorem witness_CloseClosesOnce :
    (given [.closeBlock]).created = true ∧ (given [.closeBlock]).busy = false ∧ (given [.closeBlock]).awaiting = false ∧
    (given [.closeBlock]).pending = .closeBlock :: [] ∧ (given [.closeBlock]).conn = .opened ∧
    (after (step (given [.closeBlock, .closeBlock])) State.reset).conn = .closed ∧
    (after (step (given [.closeBlock, .closeBlock])) State.reset).pending = .closeBlock :: [] := by decide
/-- A step that closes, and a step of a block that is closed. -/
theorem witness_ClosedForGoodAndConfiguredOnce :
    (∃ t, step (given [.closeBlock, .closeBlock]) = .next t ∧ t.conn = .closed) ∧
    (∃ t, step (after (step (given [.closeBlock, .closeBlock])) State.reset) = .next t ∧ t.conn = .closed) ∧
    (given [.closeBlock, .closeBlock]).created = true ∧ (given [.closeBlock, .closeBlock]).conn = .opened :=
  ⟨⟨_, rfl, rfl⟩, ⟨_, rfl, rfl⟩, rfl, rfl⟩
theorem witness_StepRunsTheDecodedInstruction :
    (given [.frame [0x10, 0x00, 0x01, 0x00]]).busy = false ∧
    (given [.frame [0x10, 0x00, 0x01, 0x00]]).pending = .frame [0x10, 0x00, 0x01, 0x00] :: [] ∧
    decodeRequest State.reset.fwState [0x10, 0x00, 0x01, 0x00] = .ok .getAtt ∧
    decodeRequest State.reset.fwState [0x10, 0x00, 0x01, 0x14] = .error (.notInCatalog 0x14) ∧
    (given [.call (.ack [])]).pending = .call (.ack []) :: [] ∧
    (uploading .versionSent 0 [] [] []).busy = true ∧ nextFrame (uploading .versionSent 0 [] [] []) = some .fwBegin ∧
    State.reset.busy = false ∧ State.reset.pending = [] := ⟨rfl, rfl, rfl, rfl, rfl, rfl, rfl, rfl, rfl⟩
/-- An operand at its greatest length, both readings of register 0x0A, and a response. -/
theorem witness_DecodeEncodeAgree :
    (WellFormed (.setIp (.replicate 16 0)) = true ∧ (Instr.setIp (.replicate 16 0)).readIn .idle = true) ∧
    (WellFormed (.fwVersion 255 0 1) = true ∧ (Instr.fwVersion 255 0 1).readIn .aborted = true) ∧
    (WellFormed (.fwChunk (.replicate 128 0)) = true ∧ (Instr.fwChunk (.replicate 128 0)).readIn .uploading = true) ∧
    (WellFormed (.setTcs 1) = true ∧ (Instr.setTcs 1).readIn .finalized = true) ∧ ([] : Bytes).length ≤ 1024 := by
  decide
theorem witness_EncodeDecodeAgree : decodeRequest .uploading [0x20, 0x00, 0x02, 0x05, 0xFF] = .ok (.setTcs 255) := rfl
/-- Register ids at the ends of each range, and each payload length. -/
theorem witness_DirectionsOutsideTheCatalogAreRejected :
    (0x08 : Byte) ∈ [0x08, 0x09, 0x0A, 0x12] ∧ (0x12 : Byte) ∈ [0x08, 0x09, 0x0A, 0x12] ∧
    (0x01 : Byte) ∈ [0x01, 0x02, 0x0B, 0x13] ∧ (0x13 : Byte) ∈ [0x01, 0x02, 0x0B, 0x13] ∧
    lenByte ([0x01] : Bytes).length = some 0x02 ∧ lenByte (le64 0).length = some 0x09 ∧
    0x14 ≤ (0x14 : Byte).toNat ∧ 0x14 ≤ (0xFF : Byte).toNat := by decide

/-- A string with two parts, one with a component above 255 (V-D69, V-D68), and an upload with the first. -/
theorem witness_VersionErrorsAreCaughtAsInvalidArgument :
    Error.invalidVersionFormat.isInvalidVersionFormat = true ∧
    parseVersion "1.2".toList = .error .invalidVersionFormat ∧
    parseVersion "256.0.0".toList = .error (.invalidArgument .versionComponent) ∧
    Ready (given [.fwUpload "1.2".toList []]) ∧
    (given [.fwUpload "1.2".toList []]).pending = .fwUpload "1.2".toList [] :: [] ∧
    (∀ v, parseVersion "1.2".toList ≠ .ok v) := by
  have h : parseVersion "1.2".toList = .error .invalidVersionFormat := by decide +kernel
  exact ⟨rfl, h, by decide +kernel, by decide, rfl, fun v hv => by rw [h] at hv; cases hv⟩

/-- `PARSE_VERSION` and `ACK` as commands of a host, before `OPEN` and after `CLOSE` (log 36). -/
theorem test_pure_commands_without_a_block :
    (after (exec (.ack []) State.beforeOpen) State.reset).results = [.ok .unit] ∧
    (after (runCommand (.parseVersion "1_2_3".toList) State.beforeOpen) State.reset).results = [.ok (.version 1 2 3)] := by
  decide +kernel

/-- The state after construction meets the invariant with any answers listed and any commands to accept. -/
theorem inv_given (cs : List Command) (sa : List Reply) (ra : List RecvAnswer) :
    Inv { State.reset with pending := cs, sendAnswers := sa, recvAnswers := ra } := by
  constructor <;> simp [State.reset, Cfg.opened, unanswered, afterEvent, OnlyListedFrames, BoundedReceives, Hardwired]

/-- A state at rest and one step from it. -/
theorem witness_StepKeepsTheInvariant : Inv (given [.call .getAtt]) ∧ ∃ t, step (given [.call .getAtt]) = .next t :=
  ⟨inv_given _ _ _, ⟨_, rfl⟩⟩
/-- An upload in progress meets it. -/
theorem witness_NoStepOfASoundStateIsStuck :
    Inv (uploading .uploading 1 [0x5A] [] []) ∧ (uploading .uploading 1 [0x5A] [] []).busy = true := by
  refine ⟨?_, rfl⟩
  constructor <;>
    simp [uploading, State.reset, Cfg.opened, unanswered, afterEvent, OnlyListedFrames, BoundedReceives, Hardwired]

end Sys2Proof.Tests
end

/-! PROOFS. The state of the block (spec/10_state.md): what a command, and so a step, can leave behind it. First the
rules of the shared operations that Laws/Ops does not state, then one inversion of `exec`, then the obligations. -/

namespace Sys2Proof.Proofs

open Sys2Proof.Machine Sys2Proof.Safety

/-! ### The span of a request, and what a receive leaves -/

@[simp] theorem sentStep_awaiting (req : Bytes) (s : State) : (sentStep req s).awaiting = true := rfl

@[simp] theorem receiveResponse_awaiting (s : State) : (receiveResponse s).2.awaiting = false := by
  cases h : s.recvAnswer <;> simp [receiveResponse, h]

/-- A transaction that starts with nothing unanswered ends with nothing unanswered (spec/10_state.md R17). -/
theorem transact_awaiting {req : Bytes} {s : State} (h : s.awaiting = false) :
    (transact req s).2.awaiting = false := by
  obtain ⟨-, ht⟩ | ⟨-, -, ht⟩ | ⟨r, -, -, ht⟩ := transact_cases req s
  · simp [ht, h]
  · simp [ht]
  · simp [ht]

/-- Of a listed sequence longer than a receive takes, the receive returns the first part and leaves the rest at the head
of the list (spec/10_state.md R21; log 4). -/
theorem recvAnswer_of_cons_long {s : State} {r : Bytes} {rest : List RecvAnswer} (h : s.recvAnswers = .ok r :: rest)
    (hr : s.cfg.rxMax < r.length) :
    s.recvAnswer = .ok (r.take s.cfg.rxMax) ∧ (recvStep s).recvAnswers = .ok (r.drop s.cfg.rxMax) :: rest := by
  simp [State.recvAnswer, State.recvReady, h, recvPart, residue, Nat.not_le.mpr hr]

/-! ### Events that are no transfer -/

/-- The events that move bytes of a request or a response; all others leave the half-duplex order as it is. -/
def isTransfer : Event → Bool
  | .send _ _ | .recv _ _ => true
  | .connect _ _ _ | .setNoDelay | .setTimeout _ | .close => false

theorem afterEvent_of_not_transfer (open_ : Bool) {e : Event} (h : isTransfer e = false) :
    afterEvent open_ e = some open_ := by
  cases e with
  | send | recv => simp [isTransfer] at h
  | connect | setNoDelay | setTimeout | close => cases open_ <;> rfl

theorem foldlM_afterEvent_of_not_transfer (open_ : Bool) {h : List Event} (hh : ∀ e ∈ h, isTransfer e = false) :
    h.foldlM afterEvent open_ = some open_ := by
  induction h with
  | nil => rfl
  | cons e es ih =>
    rw [List.foldlM_cons, afterEvent_of_not_transfer open_ (hh e List.mem_cons_self)]
    exact ih fun e' he' => hh e' (List.mem_cons_of_mem e he')

/-- A block that rests in `Idle` and has transferred nothing yet meets the invariant. -/
theorem inv_of_no_transfer {s : State} (awaiting : s.awaiting = false) (busy : s.busy = false)
    (upload : s.upload = none) (fwState : s.fwState = .idle) (hardwired : Hardwired s.cfg)
    (exists_of_open : s.conn = .opened → s.created = true) (history : ∀ e ∈ s.history, isTransfer e = false) :
    Inv s where
  awaiting := awaiting
  hardwired := hardwired
  busy_iff := by simp [busy, upload]
  running := by simp [busy]
  resting _ := .inl fwState
  offset := by simp [upload]
  exists_of_open := exists_of_open
  halfDuplex := foldlM_afterEvent_of_not_transfer false history
  listed _ _ hm := nomatch history _ hm
  bounded _ _ hm := nomatch history _ hm

/-! ### What an instruction can do -/

/-- What an upload frame changes before its transaction: a chunk moves `img_off` (spec/42_firmware_upload.md R155). -/
def uploadStart : Instr → State → State
  | .fwChunk c, s => s.setImgOff (s.imgOff + c.length)
  | _, s => s

/-- What an upload frame changes once its acknowledgment has been read (spec/42_firmware_upload.md R151 to R157). -/
def uploadAdvance : Instr → State → State
  | .fwVersion _ _ _, s => s.setFw .versionSent
  | .fwBegin, s => (s.setFw .uploading).setImgOff 0
  | .fwEnd, s => complete .unit ((s.setFw .finalized).setUpload none)
  | _, s => s

/-- Everything an instruction that answers a next state can do, as a state `t` after `s`. -/
inductive Did (i : Instr) (s t : State) : Prop where
  /-- A response format: a result and nothing else (spec/40_codec.md R88). -/
  | reported (res : Result) : i.isRequest = false → t = s.report res → Did i s t
  /-- An accessor on a closed block (spec/70_reset_and_hazards.md R220). -/
  | foundClosed : s.created = true → s.busy = false → s.awaiting = false → s.conn = .closed →
      t = raise (.transport .send) s → Did i s t
  /-- An operand that is not sent, with the error of R105. -/
  | rejected : Ready s → t = raise (.invalidArgument .attenuation) (s.setBusy true) → Did i s t
  /-- An operand that is not sent, without an error (R113). -/
  | ignored : Ready s → t = complete .unit (s.setBusy true) → Did i s t
  /-- The transaction of a read (R101). -/
  | read (shape : Shape) : Ready s → i.isRequest = true → WellFormed i = true →
      t = finishRead shape (transact (encode i) (s.setBusy true)) → Did i s t
  /-- The transaction of a write (R102). -/
  | wrote : Ready s → i.isRequest = true → WellFormed i = true →
      t = finishWrite (transact (encode i) (s.setBusy true)) → Did i s t
  /-- The transaction of an upload frame (spec/42_firmware_upload.md R159). -/
  | uploaded : nextFrame s = some i → t = finishUpload (uploadAdvance i) (transact (encode i) (uploadStart i s)) →
      Did i s t

/-- A frame that the write encoder answers is the one `writeFrame` gives. -/
theorem writeFrame_of_encWrite {r : Reg} {payload req : Bytes} (h : encWrite r.id payload = some req) :
    writeFrame r payload = req := by
  simp [writeFrame, h]

theorem did_of_readRegister {i : Instr} {r : Reg} {s t : State} (hi : i.isRequest = true) (hw : WellFormed i = true)
    (he : encode i = encRead r.id) (h : readRegister r s = .next t) : Did i s t := by
  obtain ⟨hc, hb, ha, ⟨hconn, rfl⟩ | ⟨hconn, hbody⟩⟩ := accepted_next h
  · exact .foundClosed hc hb ha hconn rfl
  · cases hbody
    exact .read r.shape ⟨hc, hconn, hb, ha⟩ hi hw (by rw [he])

theorem did_of_sendWrite {i : Instr} {r : Reg} {payload : Bytes} {s t : State} (hs : Ready s)
    (hi : i.isRequest = true) (hw : WellFormed i = true) (he : encode i = writeFrame r payload)
    (h : sendWrite r payload (s.setBusy true) = .next t) : Did i s t := by
  obtain ⟨req, hreq, rfl⟩ := sendWrite_next h
  exact .wrote hs hi hw (by rw [he, writeFrame_of_encWrite hreq])

theorem did_of_writeRegister {i : Instr} {r : Reg} {payload : Bytes} {s t : State} (hi : i.isRequest = true)
    (hw : WellFormed i = true) (he : encode i = writeFrame r payload) (h : writeRegister r payload s = .next t) :
    Did i s t := by
  obtain ⟨hc, hb, ha, ⟨hconn, rfl⟩ | ⟨hconn, hbody⟩⟩ := accepted_next h
  · exact .foundClosed hc hb ha hconn rfl
  · exact did_of_sendWrite ⟨hc, hconn, hb, ha⟩ hi hw he hbody

theorem did_of_execSetAtt {v : Word64} {s t : State} (h : execSetAtt v s = .next t) : Did (.setAtt v) s t := by
  obtain ⟨hc, hb, ha, ⟨hconn, rfl⟩ | ⟨hconn, hbody⟩⟩ := accepted_next h
  · exact .foundClosed hc hb ha hconn rfl
  · split at hbody
    next hv => exact did_of_sendWrite ⟨hc, hconn, hb, ha⟩ rfl hv rfl hbody
    next => cases hbody; exact .rejected ⟨hc, hconn, hb, ha⟩ rfl

theorem did_of_execSetTcs {v : Int} {s t : State} (h : execSetTcs v s = .next t) : Did (.setTcs v) s t := by
  obtain ⟨hc, hb, ha, ⟨hconn, rfl⟩ | ⟨hconn, hbody⟩⟩ := accepted_next h
  · exact .foundClosed hc hb ha hconn rfl
  · split at hbody
    next hv => exact did_of_sendWrite ⟨hc, hconn, hb, ha⟩ rfl (by simpa [WellFormed] using hv) rfl hbody
    next => cases hbody; exact .ignored ⟨hc, hconn, hb, ha⟩ rfl

theorem did_of_execSetIp {a : Bytes} {s t : State} (h : execSetIp a s = .next t) : Did (.setIp a) s t := by
  unfold execSetIp at h
  split at h
  next => cases h
  next hlen => exact did_of_writeRegister rfl (by simpa [WellFormed] using hlen) rfl h

theorem did_of_uploadWrite {i : Instr} {r : Reg} {payload : Bytes} {s t : State} (he : encode i = writeFrame r payload)
    (h : inSequence i s (fun s' => uploadWrite r payload (uploadAdvance i) (uploadStart i s')) = .next t) :
    Did i s t := by
  obtain ⟨hnext, hbody⟩ := inSequence_next h
  obtain ⟨req, hreq, rfl⟩ := uploadWrite_next hbody
  exact .uploaded hnext (by rw [he, writeFrame_of_encWrite hreq])

/-- The inversion of `exec`: an instruction that answers a next state did one of the things `Did` lists. -/
theorem exec_next {i : Instr} {s t : State} (h : exec i s = .next t) : Did i s t := by
  cases i with
  | getAtt | getTempAc | getTempBd | getSpAc | getSpBd | getTcs | getHeatAc | getHeatBd | getVersion
  | getPidAcKc | getPidAcTi | getPidAcTd | getPidBdKc | getPidBdTi | getPidBdTd | getMac =>
    exact did_of_readRegister rfl rfl rfl h
  | setSpAc | setSpBd | setHeatAc | setHeatBd | reset
  | setPidAcKc | setPidAcTi | setPidAcTd | setPidBdKc | setPidBdTi | setPidBdTd =>
    exact did_of_writeRegister rfl rfl rfl h
  | setAtt => exact did_of_execSetAtt h
  | setTcs => exact did_of_execSetTcs h
  | setIp => exact did_of_execSetIp h
  | fwVersion | fwBegin | fwChunk | fwEnd => exact did_of_uploadWrite rfl h
  | rspF64 | rspU8 | rspB7 | rspB17 | ack => cases h; exact .reported _ rfl rfl

/-! ### What keeps the block as it is -/

/-- `t` is the same block as `s`: as much in being, with the same configuration and the same connection
(spec/10_state.md R16, R19). -/
structure SameBlock (s t : State) : Prop where
  created : t.created = s.created
  cfg : t.cfg = s.cfg
  conn : t.conn = s.conn

theorem SameBlock.refl (s : State) : SameBlock s s := ⟨rfl, rfl, rfl⟩

theorem SameBlock.trans {s t u : State} (hst : SameBlock s t) (htu : SameBlock t u) : SameBlock s u :=
  ⟨htu.created.trans hst.created, htu.cfg.trans hst.cfg, htu.conn.trans hst.conn⟩

theorem setBusy_sameBlock (b : Bool) (s : State) : SameBlock s (s.setBusy b) := ⟨rfl, rfl, rfl⟩

theorem transact_sameBlock (req : Bytes) (s : State) : SameBlock s (transact req s).2 := by
  rw [transact_frame]
  exact ⟨rfl, rfl, rfl⟩

theorem finishRead_sameBlock (shape : Shape) (x : Exchange × State) : SameBlock x.2 (finishRead shape x) := by
  obtain ⟨e, h⟩ | ⟨v, h⟩ := finishRead_cases shape x <;> rw [h] <;> exact ⟨rfl, rfl, rfl⟩

theorem finishWrite_sameBlock (x : Exchange × State) : SameBlock x.2 (finishWrite x) := by
  obtain ⟨place, h⟩ | h := finishWrite_cases x <;> rw [h] <;> exact ⟨rfl, rfl, rfl⟩

theorem uploadStart_sameBlock (i : Instr) (s : State) : SameBlock s (uploadStart i s) := by
  cases i <;> exact ⟨rfl, rfl, rfl⟩

theorem uploadAdvance_sameBlock (i : Instr) (s : State) : SameBlock s (uploadAdvance i s) := by
  cases i <;> exact ⟨rfl, rfl, rfl⟩

theorem finishUpload_sameBlock (i : Instr) (x : Exchange × State) :
    SameBlock x.2 (finishUpload (uploadAdvance i) x) := by
  obtain ⟨place, h⟩ | h := finishUpload_cases (uploadAdvance i) x <;> rw [h]
  · exact ⟨rfl, rfl, rfl⟩
  · exact uploadAdvance_sameBlock i x.2

/-- No instruction of the opcode table creates, configures, opens or closes a block. -/
theorem exec_sameBlock {i : Instr} {s t : State} (h : exec i s = .next t) : SameBlock s t := by
  cases exec_next h with
  | reported _ _ ht | foundClosed _ _ _ _ ht | rejected _ ht | ignored _ ht => subst ht; exact ⟨rfl, rfl, rfl⟩
  | read shape _ _ _ ht =>
    subst ht
    exact ((setBusy_sameBlock true s).trans (transact_sameBlock (encode i) _)).trans (finishRead_sameBlock shape _)
  | wrote _ _ _ ht =>
    subst ht
    exact ((setBusy_sameBlock true s).trans (transact_sameBlock (encode i) _)).trans (finishWrite_sameBlock _)
  | uploaded _ ht =>
    subst ht
    exact ((uploadStart_sameBlock i s).trans (transact_sameBlock (encode i) _)).trans (finishUpload_sameBlock i _)

/-! ### The commands that are no instruction -/

theorem runPure_sameBlock {res : Result} {s t : State} (h : runPure res s = .next t) : SameBlock s t := by
  cases h
  exact ⟨rfl, rfl, rfl⟩

theorem runFrame_sameBlock {b : Bytes} {s t : State} (h : runFrame b s = .next t) : SameBlock s t := by
  unfold runFrame at h
  split at h
  · exact exec_sameBlock h
  · cases h

theorem runEncWrite_sameBlock {reg : Byte} {payload : Bytes} {s t : State} (h : runEncWrite reg payload s = .next t) :
    SameBlock s t := by
  unfold runEncWrite at h
  split at h
  · exact runPure_sameBlock h
  · cases h

theorem runUnpack_sameBlock {b : Bytes} {s t : State} (h : runUnpack b s = .next t) : SameBlock s t := by
  unfold runUnpack at h
  split at h
  · exact runPure_sameBlock h
  · cases h

/-- If an upload is taken up, the block was closed and the transport error was raised; or it was ready, and the version
string was an error, or its upload is in progress (spec/42_firmware_upload.md R150, R152). -/
theorem runFwUpload_next {version : Text} {image : Bytes} {s t : State} (h : runFwUpload version image s = .next t) :
    (s.created = true ∧ s.busy = false ∧ s.awaiting = false ∧ s.conn = .closed ∧ t = raise (.transport .send) s) ∨
    (Ready s ∧
      ((∃ e, parseVersion version = .error e ∧ t = raise e ((s.setBusy true).setFw .idle)) ∨
       (∃ major minor patch, parseVersion version = .ok (major, minor, patch) ∧
         t = ((s.setBusy true).setFw .idle).setUpload
           (some { major := major, minor := minor, patch := patch, image := image })))) := by
  obtain ⟨hc, hb, ha, ⟨hconn, rfl⟩ | ⟨hconn, hbody⟩⟩ := accepted_next h
  · exact .inl ⟨hc, hb, ha, hconn, rfl⟩
  · refine .inr ⟨⟨hc, hconn, hb, ha⟩, ?_⟩
    split at hbody
    next e he => cases hbody; exact .inl ⟨e, he, rfl⟩
    next major minor patch hv => cases hbody; exact .inr ⟨major, minor, patch, hv, rfl⟩

theorem runFwUpload_sameBlock {version : Text} {image : Bytes} {s t : State}
    (h : runFwUpload version image s = .next t) : SameBlock s t := by
  obtain ⟨-, -, -, -, rfl⟩ | ⟨-, ⟨e, -, rfl⟩ | ⟨major, minor, patch, -, rfl⟩⟩ := runFwUpload_next h <;>
    exact ⟨rfl, rfl, rfl⟩

/-- An existing block is not opened again (spec/70_reset_and_hazards.md R210). -/
theorem runOpen_of_created {host : Text} {port : Nat} {s : State} (h : s.created = true) :
    runOpen host port s = .refused .alreadyOpen := by
  simp [runOpen, h]

/-- If `CLOSE` answers, an open block is closed, and a closed one stays as it is (spec/70_reset_and_hazards.md R212). -/
theorem runClose_next {s t : State} (h : runClose s = .next t) :
    s.created = true ∧ s.busy = false ∧ s.awaiting = false ∧
      ((s.conn = .opened ∧ t = ((s.record .close).setConn .closed).report (.ok .unit)) ∨
       (s.conn = .closed ∧ t = s.report (.ok .unit))) := by
  unfold runClose at h
  split at h
  next hc =>
    split at h
    next => cases h
    next hidle =>
      simp only [Bool.or_eq_true, not_or, Bool.not_eq_true] at hidle
      obtain ⟨hb, ha⟩ := hidle
      split at h
      next hconn => cases h; exact ⟨hc, hb, ha, .inl ⟨hconn, rfl⟩⟩
      next hconn => cases h; exact ⟨hc, hb, ha, .inr ⟨hconn, rfl⟩⟩
  next => cases h

/-- Of the host's commands only `CLOSE` can leave an existing block otherwise than it was. -/
theorem runCommand_sameBlock {c : Command} {s t : State} (hs : s.created = true) (hc : c ≠ .closeBlock)
    (h : runCommand c s = .next t) : SameBlock s t := by
  cases c with
  | call => exact exec_sameBlock h
  | frame => exact runFrame_sameBlock h
  | encRead | packF64 | decBytes | parseVersion => exact runPure_sameBlock h
  | encWrite => exact runEncWrite_sameBlock h
  | unpackF64 => exact runUnpack_sameBlock h
  | fwUpload => exact runFwUpload_sameBlock h
  | openBlock => rw [runCommand, runOpen_of_created hs] at h; cases h
  | closeBlock => exact absurd rfl hc

/-! ### The step -/

/-- What a step that answers a next state ran: the sequencer's next frame, nothing, or the host's next command. -/
theorem step_next {s t : State} (h : step s = .next t) :
    (s.busy = true ∧ ∃ i, nextFrame s = some i ∧ exec i s = .next t) ∨
    (s.busy = false ∧ s.pending = [] ∧ t = s) ∨
    (s.busy = false ∧ ∃ c rest, s.pending = c :: rest ∧ runCommand c { s with pending := rest } = .next t) := by
  unfold step at h
  split at h
  next hb =>
    unfold stepUpload at h
    split at h
    next i hi => exact .inl ⟨hb, i, hi, h⟩
    next => cases h
  next hb =>
    rw [Bool.not_eq_true] at hb
    unfold stepCommand at h
    split at h
    next hp => cases h; exact .inr (.inl ⟨hb, hp, rfl⟩)
    next c rest hp => exact .inr (.inr ⟨hb, c, rest, hp, h⟩)

/-- A step leaves an existing block as it was, or it ran the host's `CLOSE`, which leaves it closed. -/
theorem step_sameBlock_or_close {s t : State} (h : step s = .next t) (hs : s.created = true) :
    SameBlock s t ∨
    (s.pending.head? = some .closeBlock ∧ t.created = true ∧ t.cfg = s.cfg ∧ t.conn = .closed) := by
  obtain ⟨-, i, -, hexec⟩ | ⟨-, -, rfl⟩ | ⟨-, c, rest, hp, hrun⟩ := step_next h
  · exact .inl (exec_sameBlock hexec)
  · exact .inl (.refl t)
  · by_cases hc : c = .closeBlock
    · subst hc
      obtain ⟨-, -, -, ⟨-, rfl⟩ | ⟨hconn, rfl⟩⟩ := runClose_next hrun
      · exact .inr ⟨by rw [hp, List.head?_cons], hs, rfl, rfl⟩
      · exact .inr ⟨by rw [hp, List.head?_cons], hs, rfl, hconn⟩
    · obtain ⟨hcreated, hcfg, hconn⟩ := runCommand_sameBlock (s := { s with pending := rest }) hs hc hrun
      exact .inl ⟨hcreated, hcfg, hconn⟩

/-! ### The obligations -/

/-- Settles O47: of all steps only `CLOSE` touches an existing block, and it only closes the connection. -/
theorem closedForGoodAndConfiguredOnce : Obligations.ClosedForGoodAndConfiguredOnce := by
  intro s t h hs
  obtain ⟨hcreated, hcfg, hconn⟩ | ⟨hclose, hcreated, hcfg, hconn⟩ := step_sameBlock_or_close h hs
  · exact ⟨hcreated.trans hs, hcfg, hconn.trans, fun hopen hclosed => by simp [hconn, hopen] at hclosed⟩
  · exact ⟨hcreated, hcfg, fun _ => hconn, fun _ _ => hclose⟩

/-- Settles O32, by the cases of the transaction. -/
theorem awaitingSpansSendToReceive : Obligations.AwaitingSpansSendToReceive :=
  fun req s h => ⟨sentStep_awaiting req s, receiveResponse_awaiting _, transact_awaiting h⟩

/-- Settles O33: the first receive leaves a rest that fits into the second. -/
theorem residueIsReceivedNext : Obligations.ResidueIsReceivedNext := by
  intro s r ra hmax hready hlong hshort
  obtain ⟨hfirst, hrest⟩ := recvAnswer_of_cons_long hready (by rwa [hmax])
  rw [hmax] at hfirst hrest
  have hfits : (r.drop 1024).length ≤ (recvStep s).cfg.rxMax := by
    rw [recvStep_cfg, hmax, List.length_drop]; omega
  exact ⟨hfirst, recvAnswer_of_cons hrest hfits⟩

/-- Settles O44: `State.reset` is written out, so each value is read off. -/
theorem resetValues : Obligations.ResetValues :=
  ⟨rfl, rfl, rfl, rfl, rfl, rfl, rfl, rfl, rfl⟩

/-- Settles O54: in both states the block rests in `Idle`, and its history holds at most the three construction calls. -/
theorem resetMeetsTheInvariant : Obligations.ResetMeetsTheInvariant :=
  ⟨inv_of_no_transfer rfl rfl rfl rfl ⟨rfl, rfl, rfl⟩ (fun _ => rfl) (by decide),
   inv_of_no_transfer rfl rfl rfl rfl ⟨rfl, rfl, rfl⟩ (fun h => nomatch h) (by decide)⟩

end Sys2Proof.Proofs

/-! PROOFS. The transport stream and the ordering model (spec/20_memory.md R34, R43): every step keeps the invariant.
First what one transaction adds to the history; then the invariant taken apart into its two cases, a block at rest and a
running upload; then each operation as a passage from one case to a state that meets the invariant again. -/

namespace Sys2Proof.Proofs

open Sys2Proof.Machine Sys2Proof.Safety

/-! ### The frame of a transaction, field by field -/

@[simp] theorem transact_busy (req : Bytes) (s : State) : (transact req s).2.busy = s.busy := by
  rw [transact_frame]

@[simp] theorem transact_upload (req : Bytes) (s : State) : (transact req s).2.upload = s.upload := by
  rw [transact_frame]

@[simp] theorem transact_fwState (req : Bytes) (s : State) : (transact req s).2.fwState = s.fwState := by
  rw [transact_frame]

@[simp] theorem transact_imgOff (req : Bytes) (s : State) : (transact req s).2.imgOff = s.imgOff := by
  rw [transact_frame]

/-- The events a transaction appends are one of the three ways a transaction goes (spec/41_transactions.md R100). -/
theorem transact_went (req : Bytes) {s : State} (hmax : s.cfg.rxMax = 1024) :
    ∃ events, Went req events (transact req s).1 ∧ (transact req s).2.history = s.history ++ events := by
  have hcfg : (sentStep req s).cfg.rxMax = 1024 := hmax
  have hhist : (sentStep req s).history = s.history ++ [.send req s.sendAnswer] := rfl
  obtain ⟨hs, ht⟩ | ⟨hs, hr, ht⟩ | ⟨r, hs, hr, ht⟩ := transact_cases req s
  · rw [ht]
    exact ⟨_, .sendFailed, by simp [hs]⟩
  · rw [ht]
    exact ⟨_, .recvFailed, by simp [hs, hr, hcfg, hhist]⟩
  · rw [ht]
    exact ⟨_, .response r (hcfg ▸ recvAnswer_length hr), by simp [hs, hr, hcfg, hhist, answered]⟩

/-! ### Sound histories -/

/-- What the invariant asks of a history (spec/20_memory.md R34, R43; spec/30_encoding.md R62). -/
structure SoundHistory (h : List Event) : Prop where
  halfDuplex : unanswered h = some false
  listed : OnlyListedFrames h
  bounded : BoundedReceives h

/-- A history that leaves nothing unanswered is continued as if it were the first: sound pieces make a sound whole. -/
theorem SoundHistory.append {h events : List Event} (hh : SoundHistory h) (he : SoundHistory events) :
    SoundHistory (h ++ events) where
  halfDuplex := by
    have hfirst : h.foldlM afterEvent false = some false := hh.halfDuplex
    rw [unanswered, List.foldlM_append, hfirst]
    exact he.halfDuplex
  listed b a hm := (List.mem_append.mp hm).elim (hh.listed b a) (he.listed b a)
  bounded n a hm := (List.mem_append.mp hm).elim (hh.bounded n a) (he.bounded n a)

/-- One event that is no transfer. -/
theorem soundHistory_of_not_transfer {e : Event} (h : isTransfer e = false) : SoundHistory [e] where
  halfDuplex := foldlM_afterEvent_of_not_transfer false (by simpa using h)
  listed b a hm := by rw [← List.mem_singleton.mp hm] at h; cases h
  bounded n a hm := by rw [← List.mem_singleton.mp hm] at h; cases h

/-- One transaction with a frame of the opcode map, however it goes. -/
theorem soundHistory_of_went {frame : Bytes} {events : List Event} {x : Exchange} (h : Went frame events x)
    (hframe : Emittable frame) : SoundHistory events := by
  cases h with
  | sendFailed => exact ⟨rfl, by simpa [OnlyListedFrames] using hframe, by simp [BoundedReceives]⟩
  | recvFailed => exact ⟨rfl, by simpa [OnlyListedFrames] using hframe, by simp [BoundedReceives]⟩
  | response r hr =>
    exact ⟨rfl, by simpa [OnlyListedFrames, answered] using hframe, by simpa [BoundedReceives, answered] using hr⟩

theorem transact_soundHistory {req : Bytes} {s : State} (hreq : Emittable req) (hmax : s.cfg.rxMax = 1024)
    (h : SoundHistory s.history) : SoundHistory (transact req s).2.history := by
  obtain ⟨events, hwent, hhist⟩ := transact_went req hmax
  exact hhist ▸ h.append (soundHistory_of_went hwent hreq)

/-! ### The two cases of the invariant -/

/-- What the invariant asks of every state, whatever the sequencer does. -/
structure Sound (s : State) : Prop where
  awaiting : s.awaiting = false
  hardwired : Hardwired s.cfg
  exists_of_open : s.conn = .opened → s.created = true
  history : SoundHistory s.history

/-- No upload is in progress. `busy` is left open: inside an accessor it is true, and the end of the command clears it. -/
structure Resting (s : State) : Prop extends Sound s where
  upload : s.upload = none
  fwState : s.fwState = .idle ∨ s.fwState = .finalized ∨ s.fwState = .aborted

/-- The upload `u` is in progress. -/
structure Running (u : Upload) (s : State) : Prop extends Sound s where
  busy : s.busy = true
  created : s.created = true
  conn : s.conn = .opened
  upload : s.upload = some u
  fwState : s.fwState = .idle ∨ s.fwState = .versionSent ∨ s.fwState = .uploading
  offset : s.fwState = .uploading → s.imgOff ≤ u.image.length

theorem sound_of_inv {s : State} (h : Inv s) : Sound s :=
  ⟨h.awaiting, h.hardwired, h.exists_of_open, h.halfDuplex, h.listed, h.bounded⟩

theorem resting_of_inv {s : State} (h : Inv s) (hb : s.busy = false) : Resting s where
  toSound := sound_of_inv h
  upload := by simpa [hb] using h.busy_iff
  fwState := h.resting hb

theorem running_of_inv {s : State} (h : Inv s) (hb : s.busy = true) : ∃ u, Running u s := by
  obtain ⟨u, hu⟩ := Option.isSome_iff_exists.mp (h.busy_iff.mp hb)
  obtain ⟨hcreated, hconn, hfw⟩ := h.running hb
  exact ⟨u, sound_of_inv h, hb, hcreated, hconn, hu, hfw, h.offset u hu⟩

theorem Resting.inv {s : State} (h : Resting s) (hb : s.busy = false) : Inv s where
  awaiting := h.awaiting
  hardwired := h.hardwired
  busy_iff := by simp [hb, h.upload]
  running := by simp [hb]
  resting _ := h.fwState
  offset := by simp [h.upload]
  exists_of_open := h.exists_of_open
  halfDuplex := h.history.halfDuplex
  listed := h.history.listed
  bounded := h.history.bounded

theorem Running.inv {u : Upload} {s : State} (h : Running u s) : Inv s where
  awaiting := h.awaiting
  hardwired := h.hardwired
  busy_iff := by simp [h.busy, h.upload]
  running _ := ⟨h.created, h.conn, h.fwState⟩
  resting := by simp [h.busy]
  offset u' hu' hfw := by
    obtain rfl : u = u' := Option.some.inj (h.upload.symm.trans hu')
    exact h.offset hfw
  exists_of_open := h.exists_of_open
  halfDuplex := h.history.halfDuplex
  listed := h.history.listed
  bounded := h.history.bounded

/-- The invariant does not speak of the results handed out. -/
theorem inv_report {s : State} (h : Inv s) (r : Result) : Inv (s.report r) :=
  { h with }

/-- The invariant does not speak of the commands still to come. -/
theorem inv_withPending {s : State} (h : Inv s) (cs : List Command) : Inv { s with pending := cs } :=
  { h with }

/-! ### A block at rest -/

theorem Resting.setBusy {s : State} (h : Resting s) (b : Bool) : Resting (s.setBusy b) :=
  { h with }

theorem Resting.setFw_idle {s : State} (h : Resting s) : Resting (s.setFw .idle) :=
  { h with fwState := .inl rfl }

theorem Resting.record {s : State} (h : Resting s) {e : Event} (he : isTransfer e = false) : Resting (s.record e) :=
  { h with history := h.history.append (soundHistory_of_not_transfer he) }

theorem Resting.setConn_closed {s : State} (h : Resting s) : Resting (s.setConn .closed) :=
  { h with exists_of_open := by simp }

/-- An error ends a command of a resting block in a state that meets the invariant (spec/60_exceptions.md R188). -/
theorem Resting.inv_raise {s : State} (h : Resting s) (e : Error) : Inv (raise e s) :=
  Resting.inv { h with awaiting := rfl } rfl

/-- So does a value. -/
theorem Resting.inv_complete {s : State} (h : Resting s) (v : Value) : Inv (complete v s) :=
  Resting.inv { h with } rfl

theorem Sound.transact {s : State} (h : Sound s) {req : Bytes} (hreq : Emittable req) : Sound (transact req s).2 := by
  obtain ⟨hcreated, hcfg, hconn⟩ := transact_sameBlock req s
  obtain ⟨-, -, hmax⟩ := h.hardwired
  exact ⟨transact_awaiting h.awaiting, hcfg ▸ h.hardwired, by simpa [hconn, hcreated] using h.exists_of_open,
    transact_soundHistory hreq hmax h.history⟩

theorem Resting.transact {s : State} (h : Resting s) {req : Bytes} (hreq : Emittable req) :
    Resting (transact req s).2 :=
  ⟨h.toSound.transact hreq, by simpa using h.upload, by simpa using h.fwState⟩

theorem Resting.inv_finishRead {shape : Shape} {x : Exchange × State} (h : Resting x.2) : Inv (finishRead shape x) := by
  obtain ⟨e, he⟩ | ⟨v, hv⟩ := finishRead_cases shape x
  · exact he ▸ h.inv_raise e
  · exact hv ▸ h.inv_complete v

theorem Resting.inv_finishWrite {x : Exchange × State} (h : Resting x.2) : Inv (finishWrite x) := by
  obtain ⟨place, he⟩ | hv := finishWrite_cases x
  · exact he ▸ h.inv_raise _
  · exact hv ▸ h.inv_complete _

/-! ### A running upload -/

/-- The frame the sequencer sends next is one of the opcode map: of a non-empty read of the image, at most 128 bytes
(spec/42_firmware_upload.md R151, R155). -/
theorem nextFrame_emittable {s : State} {i : Instr} (h : nextFrame s = some i) : Emittable (encode i) := by
  obtain ⟨u, -, -, -, -, -, ⟨-, rfl⟩ | ⟨-, rfl⟩ | ⟨-, -, rfl⟩ | ⟨-, hne, rfl⟩⟩ := nextFrame_eq_some h
  · exact ⟨_, rfl, rfl, rfl⟩
  · exact ⟨_, rfl, rfl, rfl⟩
  · exact ⟨_, rfl, rfl, rfl⟩
  · have hpos := List.length_pos_iff.mpr hne
    have hlen := imgRead_length u.image s.imgOff chunkSize
    exact ⟨_, rfl, by simp only [WellFormed, Bool.and_eq_true, decide_eq_true_eq]; omega, rfl⟩

/-- Reading the next chunk keeps `img_off` within the image (spec/10_state.md R15). -/
theorem Running.uploadStart {u : Upload} {s : State} (h : Running u s) {i : Instr} (hnext : nextFrame s = some i) :
    Running u (uploadStart i s) := by
  obtain ⟨u', hu', -, -, -, -, ⟨-, rfl⟩ | ⟨-, rfl⟩ | ⟨-, -, rfl⟩ | ⟨hfw, hne, rfl⟩⟩ := nextFrame_eq_some hnext
  · exact h
  · exact h
  · exact h
  · obtain rfl : u = u' := Option.some.inj (h.upload.symm.trans hu')
    have hoff := h.offset hfw
    have hlen := imgRead_length u.image s.imgOff chunkSize
    refine { h with offset := fun _ => ?_ }
    show s.imgOff + (imgRead u.image s.imgOff chunkSize).length ≤ u.image.length
    omega

theorem Running.transact {u : Upload} {s : State} (h : Running u s) {req : Bytes} (hreq : Emittable req) :
    Running u (transact req s).2 := by
  obtain ⟨hcreated, -, hconn⟩ := transact_sameBlock req s
  exact ⟨h.toSound.transact hreq, by simpa using h.busy, hcreated.trans h.created, hconn.trans h.conn,
    by simpa using h.upload, by simpa using h.fwState, by simpa using h.offset⟩

/-- An upload that gives up its operands leaves a resting sequencer in the state it stops in. -/
theorem Running.stop {u : Upload} {s : State} (h : Running u s) {st : FwState}
    (hst : st = .idle ∨ st = .finalized ∨ st = .aborted) : Resting ((s.setFw st).setUpload none) :=
  ⟨{ h.toSound with }, rfl, hst⟩

/-- A transport error leaves a resting sequencer in `Aborted` (spec/42_firmware_upload.md R158). -/
theorem Running.inv_abortUpload {u : Upload} {s : State} (h : Running u s) (e : Error) : Inv (abortUpload e s) :=
  (h.stop (.inr (.inr rfl))).inv_raise e

/-- An acknowledged frame leaves the upload in progress, or, the end frame, a resting sequencer in `Finalized`
(spec/42_firmware_upload.md R151). -/
theorem Running.inv_uploadAdvance {u : Upload} {s : State} (h : Running u s) (i : Instr) : Inv (uploadAdvance i s) := by
  cases i with
  | fwVersion => exact Running.inv (u := u) { h with fwState := .inr (.inl rfl), offset := nofun }
  | fwBegin => exact Running.inv (u := u) { h with fwState := .inr (.inr rfl), offset := fun _ => Nat.zero_le _ }
  | fwEnd => exact (h.stop (.inr (.inl rfl))).inv_complete .unit
  | _ => exact h.inv

theorem Running.inv_finishUpload {u : Upload} {i : Instr} {x : Exchange × State} (h : Running u x.2) :
    Inv (finishUpload (uploadAdvance i) x) := by
  obtain ⟨place, he⟩ | hv := finishUpload_cases (uploadAdvance i) x
  · exact he ▸ h.inv_abortUpload _
  · exact hv ▸ h.inv_uploadAdvance i

/-! ### Instructions and commands keep the invariant -/

/-- Every instruction of the opcode table keeps the invariant. -/
theorem exec_keeps_inv {i : Instr} {s t : State} (hs : Inv s) (h : exec i s = .next t) : Inv t := by
  cases exec_next h with
  | reported res _ ht => exact ht ▸ inv_report hs res
  | foundClosed _ hb _ _ ht => exact ht ▸ (resting_of_inv hs hb).inv_raise _
  | rejected hready ht =>
    obtain ⟨-, -, hb, -⟩ := hready
    exact ht ▸ ((resting_of_inv hs hb).setBusy true).inv_raise _
  | ignored hready ht =>
    obtain ⟨-, -, hb, -⟩ := hready
    exact ht ▸ ((resting_of_inv hs hb).setBusy true).inv_complete _
  | read shape hready hi hw ht =>
    obtain ⟨-, -, hb, -⟩ := hready
    exact ht ▸ (((resting_of_inv hs hb).setBusy true).transact ⟨i, hi, hw, rfl⟩).inv_finishRead
  | wrote hready hi hw ht =>
    obtain ⟨-, -, hb, -⟩ := hready
    exact ht ▸ (((resting_of_inv hs hb).setBusy true).transact ⟨i, hi, hw, rfl⟩).inv_finishWrite
  | uploaded hnext ht =>
    obtain ⟨-, -, -, hb, -⟩ := nextFrame_eq_some hnext
    obtain ⟨u, hu⟩ := running_of_inv hs hb
    exact ht ▸ ((hu.uploadStart hnext).transact (nextFrame_emittable hnext)).inv_finishUpload

theorem runPure_keeps_inv {res : Result} {s t : State} (hs : Inv s) (h : runPure res s = .next t) : Inv t := by
  cases h
  exact inv_report hs res

theorem runFrame_keeps_inv {b : Bytes} {s t : State} (hs : Inv s) (h : runFrame b s = .next t) : Inv t := by
  unfold runFrame at h
  split at h
  · exact exec_keeps_inv hs h
  · cases h

theorem runEncWrite_keeps_inv {reg : Byte} {payload : Bytes} {s t : State} (hs : Inv s)
    (h : runEncWrite reg payload s = .next t) : Inv t := by
  unfold runEncWrite at h
  split at h
  · exact runPure_keeps_inv hs h
  · cases h

theorem runUnpack_keeps_inv {b : Bytes} {s t : State} (hs : Inv s) (h : runUnpack b s = .next t) : Inv t := by
  unfold runUnpack at h
  split at h
  · exact runPure_keeps_inv hs h
  · cases h

/-- An accepted upload starts in `Idle` (spec/42_firmware_upload.md R162). -/
theorem runFwUpload_keeps_inv {version : Text} {image : Bytes} {s t : State} (hs : Inv s)
    (h : runFwUpload version image s = .next t) : Inv t := by
  obtain ⟨-, hb, -, -, rfl⟩ | ⟨⟨hcreated, hconn, hb, -⟩, hstart⟩ := runFwUpload_next h
  · exact (resting_of_inv hs hb).inv_raise _
  · have hrest := resting_of_inv hs hb
    obtain ⟨e, -, rfl⟩ | ⟨major, minor, patch, -, rfl⟩ := hstart
    · exact (hrest.setBusy true).setFw_idle.inv_raise e
    · exact Running.inv ⟨{ hrest.toSound with }, rfl, hcreated, hconn, rfl, .inl rfl, nofun⟩

/-- If `OPEN` answers, no block existed, and the connect made one or failed (spec/70_reset_and_hazards.md R210). -/
theorem runOpen_next {host : Text} {port : Nat} {s t : State} (h : runOpen host port s = .next t) :
    s.created = false ∧
      ((s.connectAnswer = .ok ∧ t = (constructed host port (connectStep host port s)).report (.ok .unit)) ∨
       (s.connectAnswer = .fail ∧ t = (connectStep host port s).report (.error (.transport .connect)))) := by
  unfold runOpen at h
  split at h
  next => cases h
  next hc =>
    rw [Bool.not_eq_true] at hc
    cases ha : s.connectAnswer with
    | ok => simp only [ha] at h; cases h; exact ⟨hc, .inl ⟨rfl, rfl⟩⟩
    | fail => simp only [ha] at h; cases h; exact ⟨hc, .inr ⟨rfl, rfl⟩⟩

theorem Resting.connectStep {s : State} (h : Resting s) (host : Text) (port : Nat) :
    Resting (connectStep host port s) :=
  { h with history := h.history.append (soundHistory_of_not_transfer rfl) }

/-- A new block rests in `Idle`; its history goes on with two construction calls (spec/10_state.md R23). -/
theorem Resting.constructed {s : State} (h : Resting s) (host : Text) (port : Nat) :
    Resting (constructed host port s) where
  awaiting := rfl
  hardwired := ⟨rfl, rfl, rfl⟩
  exists_of_open _ := rfl
  history :=
    (h.history.append (soundHistory_of_not_transfer rfl)).append (soundHistory_of_not_transfer rfl)
  upload := rfl
  fwState := .inl rfl

theorem runOpen_keeps_inv {host : Text} {port : Nat} {s t : State} (hs : Inv s) (hb : s.busy = false)
    (h : runOpen host port s = .next t) : Inv t := by
  have hconnect := (resting_of_inv hs hb).connectStep host port
  obtain ⟨-, ⟨-, rfl⟩ | ⟨-, rfl⟩⟩ := runOpen_next h
  · exact inv_report ((hconnect.constructed host port).inv rfl) _
  · exact inv_report (hconnect.inv hb) _

theorem runClose_keeps_inv {s t : State} (hs : Inv s) (h : runClose s = .next t) : Inv t := by
  obtain ⟨-, hb, -, ⟨-, rfl⟩ | ⟨-, rfl⟩⟩ := runClose_next h
  · have hclosed := ((resting_of_inv hs hb).record (e := .close) rfl).setConn_closed
    exact inv_report (hclosed.inv hb) _
  · exact inv_report hs _

/-- Every command of the host, taken up while no command runs, keeps the invariant. -/
theorem runCommand_keeps_inv {c : Command} {s t : State} (hs : Inv s) (hb : s.busy = false)
    (h : runCommand c s = .next t) : Inv t := by
  cases c with
  | call => exact exec_keeps_inv hs h
  | frame => exact runFrame_keeps_inv hs h
  | encRead | packF64 | decBytes | parseVersion => exact runPure_keeps_inv hs h
  | encWrite => exact runEncWrite_keeps_inv hs h
  | unpackF64 => exact runUnpack_keeps_inv hs h
  | fwUpload => exact runFwUpload_keeps_inv hs h
  | openBlock => exact runOpen_keeps_inv hs hb h
  | closeBlock => exact runClose_keeps_inv hs h

/-! ### The obligation -/

/-- Settles O53, by the three things a step can run: the sequencer's next frame, nothing, or the host's next command. -/
theorem stepKeepsTheInvariant : Obligations.StepKeepsTheInvariant := by
  intro s t hs h
  obtain ⟨-, i, -, hexec⟩ | ⟨-, -, rfl⟩ | ⟨hb, c, rest, -, hrun⟩ := step_next h
  · exact exec_keeps_inv hs hexec
  · exact hs
  · exact runCommand_keeps_inv (inv_withPending hs rest) hb hrun

end Sys2Proof.Proofs

/-! PROOFS. The encoding (spec/30_encoding.md, spec/40_codec.md R80 to R85): the decoder and the encoder are inverse to
one another. First the bytes of a number and the catalog, then the decoder, once for a read frame and once for a write
frame, in both directions; then the response of a read, the sequencer's guard, and the obligations. -/

namespace Sys2Proof.Proofs

open Sys2Proof.Machine Sys2Proof.Safety

/-! ### Base-256 digits, and the binary64 payload (spec/40_codec.md R85) -/

theorem leNat_bytesOfNat (n w : Nat) : leNat (bytesOfNat n w) = w % 256 ^ n := by
  induction n generalizing w with
  | zero => simp [bytesOfNat, leNat, Nat.mod_one]
  | succ n ih => simp [bytesOfNat, leNat, ih, pow_succ', Nat.mod_mul]

theorem bytesOfNat_leNat (b : Bytes) : bytesOfNat b.length (leNat b) = b := by
  induction b with
  | nil => rfl
  | cons x xs ih =>
    have hx : x.toNat < 256 := x.isLt
    have hdigit : (x.toNat + 256 * leNat xs) % 256 = x.toNat := by omega
    have hrest : (x.toNat + 256 * leNat xs) / 256 = leNat xs := by omega
    simp [bytesOfNat, leNat, hdigit, hrest, ih]

theorem leNat_lt (b : Bytes) : leNat b < 256 ^ b.length := by
  rw [← bytesOfNat_leNat b, leNat_bytesOfNat, bytesOfNat_leNat]
  exact Nat.mod_lt _ (by positivity)

theorem extractLsb'_eq_digit (w : Word64) (k : Nat) :
    w.extractLsb' k 8 = BitVec.ofNat 8 (w.toNat / 2 ^ k % 256) := by
  apply BitVec.eq_of_toNat_eq
  simp [Nat.shiftRight_eq_div_pow]

theorem le64_eq_bytesOfNat (w : Word64) : le64 w = bytesOfNat 8 w.toNat := by
  simp [le64, bytesOfNat, extractLsb'_eq_digit, Nat.div_div_eq_div_mul]

theorem unle64_le64 (w : Word64) : unle64 (le64 w) = w := by
  apply BitVec.eq_of_toNat_eq
  have hw := w.isLt
  rw [unle64, le64_eq_bytesOfNat, leNat_bytesOfNat, BitVec.toNat_ofNat]
  omega

theorem le64_unle64 {b : Bytes} (hb : b.length = 8) : le64 (unle64 b) = b := by
  have hlt : leNat b < 2 ^ 64 := by simpa [hb] using leNat_lt b
  rw [le64_eq_bytesOfNat, unle64, BitVec.toNat_ofNat, Nat.mod_eq_of_lt hlt, ← hb, bytesOfNat_leNat]

/-! ### The catalog (spec/10_state.md R12) -/

theorem id_of_ofId_eq_some {reg : Byte} {r : Reg} (h : Reg.ofId reg = some r) : r.id = reg := by
  simpa using List.find?_some h

theorem reg_id_toNat_lt (r : Reg) : r.id.toNat < 0x14 := by
  cases r <;> decide

/-- Ids 0x14 to 0xFF name no register (spec/20_memory.md R31). -/
theorem ofId_eq_none {reg : Byte} (h : 0x14 ≤ reg.toNat) : Reg.ofId reg = none := by
  refine List.find?_eq_none.mpr fun r _ hr => ?_
  have hlt := reg_id_toNat_lt r
  rw [beq_iff_eq.mp hr] at hlt
  omega

/-! ### The decoder on a read frame (spec/30_encoding.md R51, R63) -/

theorem decodeRequest_encRead {r : Reg} {i : Instr} (st : FwState) (h : readInstr r = some i) :
    decodeRequest st (encRead r.id) = .ok i := by
  simp [decodeRequest, encRead, h]

theorem decodeRequest_encRead_notReadable {r : Reg} (st : FwState) (h : r.readable = false) :
    decodeRequest st (encRead r.id) = .error (.notReadable r.id) := by
  have hnone : readInstr r = none := by simpa [h] using readInstr_isSome r
  simp [decodeRequest, encRead, hnone]

theorem decodeRequest_encRead_notInCatalog {reg : Byte} (st : FwState) (h : Reg.ofId reg = none) :
    decodeRequest st (encRead reg) = .error (.notInCatalog reg) := by
  simp [decodeRequest, encRead, h]

/-! ### The decoder on a write frame (spec/30_encoding.md R52, R53, R63) -/

theorem decodeRequest_encWrite {r : Reg} {payload b : Bytes} (st : FwState) (h : encWrite r.id payload = some b) :
    decodeRequest st b = writeInstr st r payload := by
  obtain ⟨len, hlen, rfl⟩ := encWrite_eq_some h
  simp [decodeRequest, hlen]

theorem decodeRequest_encWrite_notInCatalog {reg : Byte} {payload b : Bytes} (st : FwState)
    (h : encWrite reg payload = some b) (hreg : Reg.ofId reg = none) :
    decodeRequest st b = .error (.notInCatalog reg) := by
  obtain ⟨len, hlen, rfl⟩ := encWrite_eq_some h
  simp [decodeRequest, hlen, hreg]

theorem decodeRequest_writeFrame {r : Reg} {payload : Bytes} {len : Byte} (st : FwState)
    (h : lenByte payload.length = some len) : decodeRequest st (writeFrame r payload) = writeInstr st r payload := by
  rw [writeFrame_eq h]
  exact decodeRequest_encWrite st (encWrite_of_len h)

/-- The inversion of the decoder: a frame that decodes is the read frame of a readable register, or the write frame of a
register whose write decodes. -/
theorem decodeRequest_ok {st : FwState} {b : Bytes} {i : Instr} (h : decodeRequest st b = .ok i) :
    (∃ r, b = encRead r.id ∧ readInstr r = some i) ∨
    (∃ r payload, encWrite r.id payload = some b ∧ writeInstr st r payload = .ok i) := by
  unfold decodeRequest at h
  split at h
  next cls h1 len reg payload =>
    split_ifs at h with hh1 hread hlen hwrite hlen
    · rw [not_or, not_not, not_not] at hlen
      obtain ⟨rfl, rfl⟩ := hlen
      split at h
      next => cases h
      next r hr =>
        split at h
        next hi => cases h; exact .inl ⟨r, by rw [not_not.mp hh1, hread, encRead, id_of_ofId_eq_some hr], hi⟩
        next => cases h
    · split at h
      next => cases h
      next r hr =>
        refine .inr ⟨r, payload, ?_, h⟩
        rw [encWrite_of_len (not_not.mp hlen), id_of_ofId_eq_some hr, not_not.mp hh1, hwrite]
        rfl
  next => cases h

/-! ### Which instruction a register's frame is (spec/30_encoding.md R62) -/

theorem encode_of_readInstr {r : Reg} {i : Instr} (h : readInstr r = some i) :
    encode i = encRead r.id ∧ i.isRequest = true := by
  cases r <;> cases h <;> exact ⟨rfl, rfl⟩

theorem f64Write_le64 (reg : Byte) (w : Word64) (mk : Word64 → Instr) : f64Write reg (le64 w) mk = .ok (mk w) := by
  simp [f64Write, unle64_le64]

theorem f64Write_ok {reg : Byte} {payload : Bytes} {mk : Word64 → Instr} {i : Instr}
    (h : f64Write reg payload mk = .ok i) : ∃ w, payload = le64 w ∧ i = mk w := by
  unfold f64Write at h
  split at h
  next hlen => cases h; exact ⟨unle64 payload, (le64_unle64 hlen).symm, rfl⟩
  next => cases h

theorem ctlWrite_ok {reg : Byte} {payload : Bytes} {i : Instr} (h : ctlWrite reg payload = .ok i) :
    (payload = [fwBeginByte] ∧ i = .fwBegin) ∨ (payload = [fwEndByte] ∧ i = .fwEnd) := by
  unfold ctlWrite at h
  split at h
  next hp => cases h; exact .inl ⟨hp, rfl⟩
  next =>
    split at h
    next hp => cases h; exact .inr ⟨hp, rfl⟩
    next => cases h

theorem chunkPayload_of_length {c : Bytes} (h : c.length = chunkSize) : chunkPayload c = c := by
  rw [chunkPayload, ← h, padRight_full]

theorem ipPayload_of_length {a : Bytes} (h : a.length = ipLen) : ipPayload a = a := by
  rw [ipPayload, ← h, padRight_full]

theorem versionPayload_eq (major minor patch : Byte) :
    versionPayload major minor patch = [major, minor, patch] ++ List.replicate 125 padVer := rfl

theorem dataWrite_versionPayload {st : FwState} (reg major minor patch : Byte)
    (h : st = .idle ∨ st = .finalized ∨ st = .aborted) :
    dataWrite st reg (versionPayload major minor patch) = .ok (.fwVersion major minor patch) := by
  obtain rfl | rfl | rfl := h <;> simp [dataWrite, versionPayload_eq]

theorem dataWrite_chunk {st : FwState} (reg : Byte) {payload : Bytes} (h : st = .versionSent ∨ st = .uploading)
    (hlen : payload.length = chunkSize) : dataWrite st reg payload = .ok (.fwChunk payload) := by
  obtain rfl | rfl := h <;> simp [dataWrite, hlen]

theorem dataWrite_ok {st : FwState} {reg : Byte} {payload : Bytes} {i : Instr} (h : dataWrite st reg payload = .ok i) :
    (payload.length = chunkSize ∧ i = .fwChunk payload) ∨
    (∃ major minor patch, payload = versionPayload major minor patch ∧ i = .fwVersion major minor patch) := by
  unfold dataWrite at h
  split at h
  next hlen =>
    split at h
    case h_1 | h_2 => cases h; exact .inl ⟨hlen, rfl⟩
    case h_3 | h_4 | h_5 =>
      split at h
      next major minor patch rest =>
        split at h
        next hrest => cases h; exact .inr ⟨major, minor, patch, by rw [hrest, versionPayload_eq]; rfl, rfl⟩
        next => cases h
      next => cases h
  next => cases h

/-- The inversion of the write rows: what a payload decodes to is the request that carries this payload. -/
theorem encode_of_writeInstr {st : FwState} {r : Reg} {payload : Bytes} {i : Instr}
    (h : writeInstr st r payload = .ok i) : encode i = writeFrame r payload ∧ i.isRequest = true := by
  cases r with
  | att | spAc | spBd | heatAc | heatBd | pidAcKc | pidAcTi | pidAcTd | pidBdKc | pidBdTi | pidBdTd =>
    obtain ⟨w, rfl, rfl⟩ := f64Write_ok h
    exact ⟨rfl, rfl⟩
  | tcs =>
    simp only [writeInstr] at h
    split at h
    next b => cases h; exact ⟨by simp [encode], rfl⟩
    next => cases h
  | softReset =>
    simp only [writeInstr] at h
    split at h
    next hp => cases h; exact ⟨by rw [hp]; rfl, rfl⟩
    next => cases h
  | fwCtl =>
    obtain ⟨rfl, rfl⟩ | ⟨rfl, rfl⟩ := ctlWrite_ok h <;> exact ⟨rfl, rfl⟩
  | fwData =>
    obtain ⟨hlen, rfl⟩ | ⟨major, minor, patch, rfl, rfl⟩ := dataWrite_ok h
    · exact ⟨by rw [encode, chunkPayload_of_length hlen], rfl⟩
    · exact ⟨rfl, rfl⟩
  | ip =>
    simp only [writeInstr] at h
    split at h
    next hlen => cases h; exact ⟨by rw [encode, ipPayload_of_length hlen], rfl⟩
    next => cases h
  | tempAc | tempBd | version | mac => cases h

/-! ### The response of a read (spec/30_encoding.md R54) -/

/-- No decoder reads a byte of the first three, and each needs at least these. -/
theorem decodeValue_ignores_first_three (shape : Shape) {pre pre' : Bytes} (rest : Bytes) (h : pre.length = 3)
    (h' : pre'.length = 3) : decodeValue shape (pre ++ rest) = decodeValue shape (pre' ++ rest) := by
  have hdrop : (pre ++ rest).drop rspPrefix = rest := List.drop_left' h
  have hdrop' : (pre' ++ rest).drop rspPrefix = rest := List.drop_left' h'
  have hlen : (pre ++ rest).length = (pre' ++ rest).length := by simp [h, h']
  have hget : (pre ++ rest).getD rspPrefix 0 = (pre' ++ rest).getD rspPrefix 0 := by
    simp [List.getElem?_append_right, h, h']
  cases shape with
  | f64 => simp only [decodeValue, decFloat, hlen, hdrop, hdrop']
  | u8 => simp only [decodeValue, decByte, hlen, hget]
  | bytes n => simp only [decodeValue, decBytes, hlen, hdrop, hdrop']

/-- A transaction whose send succeeds and whose receive meets the sequence `r`: the response is what one receive takes
of it, the rest stays for the next (spec/41_transactions.md R100; log 4). -/
theorem transact_of_cons {s : State} {sa : List Reply} {r : Bytes} {ra : List RecvAnswer} (req : Bytes)
    (hs : s.sendAnswers = .ok :: sa) (hr : s.recvAnswers = .ok r :: ra) :
    transact req s = (.response (r.take s.cfg.rxMax),
      { s with awaiting := false, sendAnswers := sa, recvAnswers := residue s.cfg.rxMax (.ok r) ++ ra,
               history := s.history ++ [.send req .ok, .recv s.cfg.rxMax (.ok (r.take s.cfg.rxMax))] }) := by
  have hsend : s.sendAnswer = .ok := sendAnswer_of_cons hs
  have hrecv : (sentStep req s).recvAnswer = .ok (r.take s.cfg.rxMax) := by
    simp [State.recvAnswer, State.recvReady, sentStep, hr, recvPart]
  have hafter : (recvStep (sentStep req s)).setAwaiting false = { s with
      awaiting := false, sendAnswers := sa, recvAnswers := residue s.cfg.rxMax (.ok r) ++ ra,
      history := s.history ++ [.send req .ok, .recv s.cfg.rxMax (.ok (r.take s.cfg.rxMax))] } := by
    rw [recvStep, hrecv]
    simp [sentStep, sendStep, hsend, hs, hr, State.recvReady, State.record, State.setAwaiting, drawsFree]
  simp [transact, hsend, receiveResponse, hrecv, hafter]

/-- The commands of `reads` are those of the catalog's readable registers. -/
theorem exists_reg_of_mem_reads {p : Instr × Byte × Shape} (hp : p ∈ reads) : ∃ r, readInstr r = some p.1 := by
  have hall : ∀ q ∈ reads, ∃ r ∈ Reg.all, readInstr r = some q.1 := by decide
  obtain ⟨r, -, hr⟩ := hall p hp
  exact ⟨r, hr⟩

theorem exec_of_readInstr {r : Reg} {i : Instr} (h : readInstr r = some i) (s : State) :
    exec i s = readRegister r s := by
  cases r <;> cases h <;> rfl

/-- Two reads that decode the same value, in states that differ in the history alone, end so. -/
theorem finishRead_sameButHistory {shape : Shape} {r r' : Bytes} {s s' : State}
    (hs : s' = { s with history := s'.history }) (hr : decodeValue shape r' = decodeValue shape r) :
    finishRead shape (.response r', s') = { finishRead shape (.response r, s) with
      history := (finishRead shape (.response r', s')).history } := by
  rw [hs]
  simp only [finishRead, hr]
  cases decodeValue shape r <;> rfl

/-- A read of a ready block whose send succeeds and whose receive meets the sequence `b` (spec/41_transactions.md
R101). -/
theorem readRegister_of_cons {s : State} {sa : List Reply} {b : Bytes} {ra : List RecvAnswer} (r : Reg) (h : Ready s)
    (hs : s.sendAnswers = .ok :: sa) (hr : s.recvAnswers = .ok b :: ra) :
    readRegister r s = .next (finishRead r.shape (.response (b.take s.cfg.rxMax),
      { s with busy := true, awaiting := false, sendAnswers := sa, recvAnswers := residue s.cfg.rxMax (.ok b) ++ ra,
               history := s.history ++ [.send (encRead r.id) .ok, .recv s.cfg.rxMax (.ok (b.take s.cfg.rxMax))] })) := by
  obtain ⟨hcreated, hconn, hbusy, hawaiting⟩ := h
  rw [readRegister, accepted_ready _ hcreated hconn hbusy hawaiting,
    transact_of_cons (s := s.setBusy true) _ hs hr]
  rfl

theorem residue_ignores_first_three {pre pre' : Bytes} (rest : Bytes) (h : pre.length = 3) (h' : pre'.length = 3) :
    residue 1024 (.ok (pre ++ rest)) = residue 1024 (.ok (pre' ++ rest)) := by
  simp [residue, List.drop_append, List.drop_of_length_le, h, h']

/-! ### The upload sequencer (spec/30_encoding.md R60, R66) -/

/-- All four upload frames are a write behind the sequencer's guard. -/
theorem exec_uploadFrame {i : Instr} (h : isUploadFrame i = true) (s : State) :
    ∃ r payload, encode i = writeFrame r payload ∧
      exec i s = inSequence i s fun s' => uploadWrite r payload (uploadAdvance i) (uploadStart i s') := by
  cases i with
  | fwVersion | fwBegin | fwChunk | fwEnd => exact ⟨_, _, rfl, rfl⟩
  | _ => cases h

theorem inSequence_refused {i : Instr} {s : State} (body : State → Host.Outcome State Fault Refusal)
    (h : nextFrame s ≠ some i) : inSequence i s body = .refused .outsideUpload :=
  if_neg h

/-- Where the image is read to its end, the end frame is next. -/
theorem nextFrame_of_image_end {s : State} {u : Upload} (hcreated : s.created = true) (hconn : s.conn = .opened)
    (hbusy : s.busy = true) (hawaiting : s.awaiting = false) (hupload : s.upload = some u)
    (hfw : s.fwState = .uploading) (hend : imgRead u.image s.imgOff chunkSize = []) : nextFrame s = some .fwEnd := by
  simp [nextFrame, hcreated, hconn, hbusy, hawaiting, hupload, hfw, hend]

/-- The sequencer makes a chunk frame of a non-empty read only. -/
theorem nextFrame_ne_empty_chunk (s : State) : nextFrame s ≠ some (.fwChunk []) := by
  intro h
  obtain ⟨u, -, -, -, -, -, ⟨-, hi⟩ | ⟨-, hi⟩ | ⟨-, -, hi⟩ | ⟨-, hne, hi⟩⟩ := nextFrame_eq_some h
  · cases hi
  · cases hi
  · cases hi
  · exact hne (Instr.fwChunk.inj hi).symm

/-! ### The obligations -/

/-- Settles O49, by the kinds of frame: the read frames, the binary64 writes, the status, the fixed payloads, and the
three padded ones. -/
theorem decodeEncodeAgree : Obligations.DecodeEncodeAgree := by
  refine ⟨fun i st hw hst => ?_, fun r hr => ?_⟩
  · cases i with
    | getAtt | getTempAc | getTempBd | getSpAc | getSpBd | getTcs | getHeatAc | getHeatBd | getVersion
    | getPidAcKc | getPidAcTi | getPidAcTd | getPidBdKc | getPidBdTi | getPidBdTd | getMac =>
      exact decodeRequest_encRead st rfl
    | setAtt v | setSpAc v | setSpBd v | setHeatAc v | setHeatBd v
    | setPidAcKc v | setPidAcTi v | setPidAcTd v | setPidBdKc v | setPidBdTi v | setPidBdTd v =>
      exact (decodeRequest_writeFrame st rfl).trans (f64Write_le64 _ v _)
    | setTcs v =>
      have hv : v = 0 ∨ v = 1 := by simpa [WellFormed] using hw
      obtain rfl | rfl := hv <;> exact decodeRequest_writeFrame st rfl
    | reset | fwBegin | fwEnd => exact decodeRequest_writeFrame st rfl
    | fwVersion major minor patch =>
      have hst : st = .idle ∨ st = .finalized ∨ st = .aborted := by simpa [Instr.readIn, or_assoc] using hst
      have hlen := versionPayload_length major minor patch
      exact (decodeRequest_writeFrame st (by rw [hlen, lenByte_chunk])).trans
        (dataWrite_versionPayload _ major minor patch hst)
    | fwChunk c =>
      obtain ⟨-, hc⟩ : 1 ≤ c.length ∧ c.length ≤ chunkSize := by simpa [WellFormed] using hw
      have hst : st = .versionSent ∨ st = .uploading := by simpa [Instr.readIn] using hst
      have hlen : (chunkPayload c).length = 128 := chunkPayload_length hc
      exact (decodeRequest_writeFrame st (by rw [hlen, lenByte_chunk])).trans (dataWrite_chunk _ hst hlen)
    | setIp a =>
      have hlen : (ipPayload a).length = 16 := ipPayload_length (by simpa [WellFormed] using hw)
      exact (decodeRequest_writeFrame st (by rw [hlen, lenByte_sixteen])).trans (if_pos hlen)
    | rspF64 | rspU8 | rspB7 | rspB17 | ack => cases hst
  · exact ⟨if_pos hr, if_pos hr, if_pos hr, if_pos hr, if_pos hr⟩

/-- Settles O20: the two runs read the same value and leave the same rest, so they part in the recorded receive
alone. -/
theorem responsePrefixIsNeverRead : Obligations.ResponsePrefixIsNeverRead := by
  intro p hp s pre pre' rest sa ra hready hsend hpre hpre' hmax
  obtain ⟨r, hr⟩ := exists_reg_of_mem_reads hp
  have hrun (q : Bytes) :=
    readRegister_of_cons (s := { s with recvAnswers := .ok (q ++ rest) :: ra }) r hready hsend rfl
  have htake (q : Bytes) (hq : q.length = 3) : (q ++ rest).take s.cfg.rxMax = q ++ rest.take 1021 := by
    simp [hmax, hq, List.take_append, List.take_of_length_le]
  refine ⟨_, _, (exec_of_readInstr hr _).trans (hrun pre), (exec_of_readInstr hr _).trans (hrun pre'), ?_⟩
  refine finishRead_sameButHistory ?_ ?_
  · simp only [hmax, residue_ignores_first_three rest hpre' hpre]
  · simpa only [htake _ hpre, htake _ hpre'] using decodeValue_ignores_first_three r.shape _ hpre' hpre

/-- Settles O50, by the inversion of the decoder. -/
theorem encodeDecodeAgree : Obligations.EncodeDecodeAgree := by
  intro st b i h
  obtain ⟨r, rfl, hi⟩ | ⟨r, payload, hb, hi⟩ := decodeRequest_ok h
  · exact encode_of_readInstr hi
  · obtain ⟨henc, hreq⟩ := encode_of_writeInstr hi
    exact ⟨henc.trans (writeFrame_of_encWrite hb), hreq⟩

/-- Settles O52: the ids listed are those of the registers that are not readable, and of those nobody writes. -/
theorem directionsOutsideTheCatalogAreRejected : Obligations.DirectionsOutsideTheCatalogAreRejected := by
  have hreads : ∀ reg ∈ ([0x08, 0x09, 0x0A, 0x12] : List Byte), ∃ r ∈ Reg.all, r.id = reg ∧ r.readable = false := by
    decide
  have hwrites : ∀ reg ∈ ([0x01, 0x02, 0x0B, 0x13] : List Byte), ∃ r ∈ Reg.all, r.id = reg ∧ r.writer = .nobody := by
    decide
  refine ⟨fun st reg hreg => ?_, fun st reg len payload hreg hlen => ?_, fun st reg len payload hreg => ?_⟩
  · obtain ⟨r, -, rfl, hr⟩ := hreads reg hreg
    exact decodeRequest_encRead_notReadable st hr
  · obtain ⟨r, -, rfl, hr⟩ := hwrites reg hreg
    exact (decodeRequest_encWrite st (encWrite_of_len hlen)).trans ((writeInstr_notWritable r).mpr hr st payload)
  · have hnone := ofId_eq_none hreg
    exact ⟨decodeRequest_encRead_notInCatalog st hnone,
      fun hlen => decodeRequest_encWrite_notInCatalog st (encWrite_of_len hlen) hnone⟩

/-- Settles O1: the encoder is the four bytes, whatever the state. -/
theorem readRequestIsFourFixedBytes : Obligations.ReadRequestIsFourFixedBytes :=
  fun _ _ => ⟨rfl, rfl, rfl⟩

/-- Settles O2, by what the write encoder answers if it answers. -/
theorem writeRequestLayout : Obligations.WriteRequestLayout := by
  intro reg payload b h
  obtain ⟨len, -, rfl⟩ := encWrite_eq_some h
  exact ⟨⟨len, rfl⟩, by simp only [List.length_append, List.length_cons, List.length_nil]⟩

/-- Settles O3, by the rows of the length table. -/
theorem writeEncoderLiteralLengths : Obligations.WriteEncoderLiteralLengths := by
  refine fun reg payload => ⟨fun h => ?_, fun h => ?_, fun h => ?_⟩
  · exact encWrite_of_len (by rw [h, lenByte_one])
  · exact encWrite_of_len (by rw [h, lenByte_eight])
  · exact encWrite_of_len (by rw [h, lenByte_chunk])

/-- Settles O7, by what the sequencer sends next: a chunk of a non-empty read, or the end frame. -/
theorem chunkPayloadIsPaddedWithOnes : Obligations.ChunkPayloadIsPaddedWithOnes :=
  ⟨fun _ _ hlen => ⟨rfl, chunkPayload_length hlen⟩, nextFrame_ne_empty_chunk,
    fun _ _ hcreated hconn hbusy hawaiting hupload hfw hend =>
      nextFrame_of_image_end hcreated hconn hbusy hawaiting hupload hfw hend⟩

/-- Settles O8: 128 bytes of payload have the length byte 0x81. -/
theorem versionPayloadIsZeroPadded : Obligations.VersionPayloadIsZeroPadded := by
  intro major minor patch
  have hlen := versionPayload_length major minor patch
  have hframe : encode (.fwVersion major minor patch) =
      [0x20, 0x00, 0x81, 0x0A] ++ versionPayload major minor patch :=
    writeFrame_eq (by rw [hlen, lenByte_chunk])
  refine ⟨versionPayload_eq major minor patch, hlen, hframe, ?_⟩
  rw [hframe, List.length_append, hlen]
  rfl

/-- Settles O39: the sequencer's guard of each of the four frames fails. -/
theorem uploadFramesOutOfOrderAreRefused : Obligations.UploadFramesOutOfOrderAreRefused := by
  intro i s hi hnext
  obtain ⟨r, payload, -, hexec⟩ := exec_uploadFrame hi s
  exact hexec.trans (inSequence_refused _ hnext)

/-- Settles O51, each frame by evaluation. -/
theorem writtenOutFramesDecode : Obligations.WrittenOutFramesDecode :=
  ⟨rfl, rfl, rfl, rfl, rfl, rfl, rfl, rfl⟩

end Sys2Proof.Proofs

/-! PROOFS. The codec's commands (spec/40_codec.md R81 to R89): when the write encoder has no frame, what a decoder
reports as a result, and the obligations. -/

namespace Sys2Proof.Proofs

open Sys2Proof.Machine Sys2Proof.Safety

/-! ### The write encoder and the unpacker as commands (spec/40_codec.md R81, R85; log 12) -/

theorem lenByte_eq_none {n : Nat} (h : n ∉ [1, 8, 16, 128]) : lenByte n = none := by
  have hsome : ¬ (lenByte n).isSome = true := fun hs => h (by simpa using (lenByte_isSome_iff n).mp hs)
  simpa using hsome

theorem encWrite_eq_none {payload : Bytes} (reg : Byte) (h : payload.length ∉ [1, 8, 16, 128]) :
    encWrite reg payload = none := by
  simp only [encWrite, lenByte_eq_none h]

theorem runEncWrite_of_frame {reg : Byte} {payload b : Bytes} (s : State) (h : encWrite reg payload = some b) :
    runEncWrite reg payload s = .next (s.report (.ok (.bytes b))) := by
  simp only [runEncWrite, h, runPure]

theorem runEncWrite_of_no_frame {reg : Byte} {payload : Bytes} (s : State) (h : encWrite reg payload = none) :
    runEncWrite reg payload s = .refused .payloadLength := by
  simp only [runEncWrite, h]

theorem runUnpack_of_length {b : Bytes} (s : State) (h : b.length = 8) :
    runUnpack b s = .next (s.report (.ok (.f64 (unle64 b)))) :=
  if_pos h

/-- The frame of a binary64 payload (spec/30_encoding.md R53). -/
theorem encWrite_le64 (reg : Byte) (w : Word64) :
    encWrite reg (le64 w) = some ([clsWrite, hdr1, 0x09, reg] ++ le64 w) :=
  encWrite_of_len (by rw [le64_length, lenByte_eight])

/-! ### The decoders (spec/40_codec.md R82 to R84) -/

/-- A response that is a prefix of three bytes and a packed word decodes to the word. -/
theorem decFloat_prefix_le64 {pre : Bytes} (w : Word64) (h : pre.length = 3) : decFloat (pre ++ le64 w) = .ok w := by
  have hlen : ¬ (pre ++ le64 w).length < 11 := by simp [h]
  have hbytes : ((pre ++ le64 w).drop rspPrefix).take 8 = le64 w := by
    rw [List.drop_left' h, List.take_of_length_le (le64_length w).le]
  rw [decFloat, if_neg hlen, hbytes, unle64_le64]

/-- The result of a decoder that asks for a length first. -/
theorem resultOf_ite {α : Type} (value : α → Value) (p : Prop) [Decidable p] (e : Error) (a : α) :
    resultOf value (if p then .error e else .ok a) = if p then .error e else .ok (value a) := by
  split <;> rfl

theorem decodeValue_f64 (r : Bytes) : decodeValue .f64 r =
    if r.length < 11 then .error (.shortResponse 11 r.length) else .ok (.f64 (unle64 ((r.drop 3).take 8))) :=
  resultOf_ite ..

theorem decodeValue_u8 (r : Bytes) : decodeValue .u8 r =
    if r.length < 4 then .error (.shortResponse 4 r.length) else .ok (.u8 (r.getD 3 0)) :=
  resultOf_ite ..

theorem decodeValue_bytes (n : Nat) (r : Bytes) : decodeValue (.bytes n) r =
    if r.length < 3 + n then .error (.shortResponse (3 + n) r.length) else .ok (.bytes ((r.drop 3).take n)) :=
  resultOf_ite ..

/-! ### The obligations -/

/-- Settles O5: the bytes of a word are its base-256 digits. -/
theorem packUnpackFloatRoundTrip : Obligations.PackUnpackFloatRoundTrip :=
  ⟨fun w => ⟨le64_length w, unle64_le64 w⟩, fun _ hb => le64_unle64 hb, fun _ _ => rfl,
    fun _ s hb => runUnpack_of_length s hb⟩

/-- Settles O4, by the rows of the length table and by what the command makes of the encoder's answer. -/
theorem writeEncoderSixteenAndRefusals : Obligations.WriteEncoderSixteenAndRefusals := by
  refine fun reg payload s => ⟨fun h => ?_, fun h => ?_, fun b h => ?_⟩
  · exact encWrite_of_len (by rw [h, lenByte_sixteen])
  · have hnone := encWrite_eq_none reg h
    exact ⟨hnone, runEncWrite_of_no_frame s hnone⟩
  · exact runEncWrite_of_frame s h

/-- Settles O6: behind its header of four bytes, the frame of a float write is the packed word. -/
theorem codecFloatRoundTrip : Obligations.CodecFloatRoundTrip := by
  intro w reg p0 p1 p2
  exact ⟨_, encWrite_le64 reg w, decFloat_prefix_le64 (pre := [p0, p1, p2]) w rfl⟩

/-- Settles O12: each response row is the pure operation that reports what the decoder of its shape gives. -/
theorem responseDecodersComplete : Obligations.ResponseDecodersComplete := fun r s =>
  ⟨congrArg (runPure · s) (decodeValue_f64 r), congrArg (runPure · s) (decodeValue_u8 r),
    congrArg (runPure · s) (decodeValue_bytes verLen r), congrArg (runPure · s) (decodeValue_bytes macLen r)⟩

end Sys2Proof.Proofs

/-! PROOFS. The transactions (spec/41_transactions.md): every accessor of a ready block is one transaction with its frame
and the result it concludes with. First that state and its three endings, then which accessor runs which transaction,
then the operands and the blocks that send nothing, then the obligations. -/

namespace Sys2Proof.Proofs

open Sys2Proof.Machine Sys2Proof.Safety

/-! ### Flags that already hold their value -/

theorem setBusy_of_eq {s : State} {b : Bool} (h : s.busy = b) : s.setBusy b = s := by
  subst h; rfl

theorem setAwaiting_of_eq {s : State} {b : Bool} (h : s.awaiting = b) : s.setAwaiting b = s := by
  subst h; rfl

theorem raise_of_rest (e : Error) {s : State} (hbusy : s.busy = false) (hawaiting : s.awaiting = false) :
    raise e s = s.report (.error e) := by
  rw [raise, setAwaiting_of_eq hawaiting, setBusy_of_eq hbusy]

theorem raise_setBusy (e : Error) (b : Bool) (s : State) : raise e (s.setBusy b) = raise e s := rfl

theorem complete_of_rest (v : Value) {s : State} (hbusy : s.busy = false) : complete v s = s.report (.ok v) := by
  rw [complete, setBusy_of_eq hbusy]

theorem complete_setBusy (v : Value) (b : Bool) (s : State) : complete v (s.setBusy b) = complete v s := rfl

/-! ### The state one transaction leaves (spec/41_transactions.md R100) -/

/-- The result a command concludes with: the transport error of its transaction, or what `value` makes of the
response. -/
def conclusion (value : Bytes → Result) : Exchange → Result
  | .failed place => .error (.transport place)
  | .response r => value r

/-- What a write makes of its acknowledgment: nothing of it is read (spec/41_transactions.md R103). -/
def acknowledged (_r : Bytes) : Result := .ok .unit

/-- `s` after one transaction and the result it concludes with. -/
def transacted (frame : Bytes) (value : Bytes → Result) (s : State) : State :=
  (transact frame s).2.report (conclusion value (transact frame s).1)

/-- A transaction neither reads nor writes `busy`. -/
theorem transact_setBusy (req : Bytes) (b : Bool) (s : State) :
    transact req (s.setBusy b) = ((transact req s).1, (transact req s).2.setBusy b) := by
  have hsend : (s.setBusy b).sendAnswer = s.sendAnswer := rfl
  have hrecv : (sentStep req (s.setBusy b)).recvAnswer = (sentStep req s).recvAnswer := rfl
  unfold transact receiveResponse
  rw [hsend, hrecv]
  cases s.sendAnswer with
  | fail => rfl
  | ok => cases (sentStep req s).recvAnswer <;> rfl

theorem finishRead_eq (shape : Shape) (x : Exchange) {s : State} (h : s.awaiting = false) :
    finishRead shape (x, s) = (s.setBusy false).report (conclusion (decodeValue shape) x) := by
  cases x with
  | failed place => rw [finishRead, raise, setAwaiting_of_eq h, conclusion]
  | response r =>
    simp only [finishRead, conclusion]
    split
    next v hv => rw [hv, complete]
    next e he => rw [he, raise, setAwaiting_of_eq h]

theorem finishWrite_eq (x : Exchange) {s : State} (h : s.awaiting = false) :
    finishWrite (x, s) = (s.setBusy false).report (conclusion acknowledged x) := by
  cases x with
  | failed place => rw [finishWrite, raise, setAwaiting_of_eq h, conclusion]
  | response r => rfl

/-- The end of a transaction that ran with `busy` true, on a block that was ready. -/
theorem transact_of_ready (req : Bytes) {s : State} (h : Ready s) :
    (transact req (s.setBusy true)).2.awaiting = false ∧
      (transact req (s.setBusy true)).1 = (transact req s).1 ∧
      (transact req (s.setBusy true)).2.setBusy false = (transact req s).2 := by
  obtain ⟨-, -, hbusy, hawaiting⟩ := h
  refine ⟨transact_awaiting hawaiting, by rw [transact_setBusy], ?_⟩
  rw [transact_setBusy]
  exact setBusy_of_eq ((transact_busy req s).trans hbusy)

theorem accepted_of_ready {s : State} (h : Ready s) (body : State → Host.Outcome State Fault Refusal) :
    accepted s body = body (s.setBusy true) := by
  obtain ⟨hcreated, hconn, hbusy, hawaiting⟩ := h
  exact accepted_ready body hcreated hconn hbusy hawaiting

theorem readRegister_of_ready (r : Reg) {s : State} (h : Ready s) :
    readRegister r s = .next (transacted (encRead r.id) (decodeValue r.shape) s) := by
  obtain ⟨hrest, hexchange, hafter⟩ := transact_of_ready (encRead r.id) h
  rw [readRegister, accepted_of_ready h, ← Prod.mk.eta (p := transact _ _),
    finishRead_eq _ _ hrest, hexchange, hafter, transacted]

theorem sendWrite_of_ready {r : Reg} {payload : Bytes} {len : Byte} {s : State} (h : Ready s)
    (hlen : lenByte payload.length = some len) :
    sendWrite r payload (s.setBusy true) = .next (transacted (writeFrame r payload) acknowledged s) := by
  obtain ⟨hrest, hexchange, hafter⟩ := transact_of_ready (writeFrame r payload) h
  have hreq : encWrite r.id payload = some (writeFrame r payload) := by rw [writeFrame_eq hlen, encWrite_of_len hlen]
  simp only [sendWrite, hreq]
  rw [← Prod.mk.eta (p := transact _ _), finishWrite_eq _ hrest, hexchange, hafter, transacted]

theorem writeRegister_of_ready {r : Reg} {payload : Bytes} {len : Byte} {s : State} (h : Ready s)
    (hlen : lenByte payload.length = some len) :
    writeRegister r payload s = .next (transacted (writeFrame r payload) acknowledged s) := by
  rw [writeRegister, accepted_of_ready h, sendWrite_of_ready h hlen]

/-! ### The endings of a transaction -/

theorem transact_fst (req : Bytes) (s : State) : (transact req s).1 = outcomeOf req s := by
  have hrecv : (sentStep req s).recvAnswer = (sendStep req s).recvAnswer := rfl
  simp only [transact, outcomeOf, receiveResponse, hrecv]
  cases s.sendAnswer with
  | fail => rfl
  | ok => cases (sendStep req s).recvAnswer <;> rfl

/-- Whatever the environment answers: the transaction goes one of the three ways, the one that the answers give, and
nothing else of the block has changed. -/
theorem transacted_ended (frame : Bytes) (value : Bytes → Result) {s : State} (h : Ready s)
    (hmax : s.cfg.rxMax = 1024) :
    ∃ events, Went frame events (outcomeOf frame s) ∧
      Ended s (transacted frame value s) events (conclusion value (outcomeOf frame s)) := by
  obtain ⟨-, -, -, hawaiting⟩ := h
  obtain ⟨events, hwent, hhist⟩ := transact_went frame hmax
  refine ⟨events, transact_fst frame s ▸ hwent, ?_⟩
  have hframe := transact_frame frame s
  rw [transact_awaiting hawaiting, ← hawaiting, hhist] at hframe
  have hresults : (transact frame s).2.results = s.results := by rw [hframe]
  rw [Ended, transacted, transact_fst, State.report, hresults, hframe]

theorem transacted_of_send_failed {s : State} {sa : List Reply} (frame : Bytes) (value : Bytes → Result)
    (hs : s.sendAnswers = .fail :: sa) :
    transacted frame value s = { s with
      sendAnswers := sa, history := s.history ++ [.send frame .fail],
      results := s.results ++ [.error (.transport .send)] } := by
  have hsend : s.sendAnswer = .fail := sendAnswer_of_cons hs
  simp [transacted, transact, sendStep, conclusion, State.record, State.report, drawsFree, hsend, hs]

theorem transacted_of_recv_failed {s : State} {sa : List Reply} {ra : List RecvAnswer} (frame : Bytes)
    (value : Bytes → Result) (h : Ready s) (hmax : s.cfg.rxMax = 1024) (hs : s.sendAnswers = .ok :: sa)
    (hr : s.recvAnswers = .fail :: ra) :
    transacted frame value s = { s with
      sendAnswers := sa, recvAnswers := ra, history := s.history ++ [.send frame .ok, .recv 1024 .fail],
      results := s.results ++ [.error (.transport .recv)] } := by
  obtain ⟨-, -, -, hawaiting⟩ := h
  have hsend : s.sendAnswer = .ok := sendAnswer_of_cons hs
  obtain ⟨hrecv, hrest⟩ := recvAnswer_of_cons_fail (s := sentStep frame s) hr
  have hafter : (recvStep (sentStep frame s)).setAwaiting false = { s with
      sendAnswers := sa, recvAnswers := ra, history := s.history ++ [.send frame .ok, .recv 1024 .fail] } := by
    rw [recvStep_recvAnswers] at hrest
    rw [recvStep, hrest, hrecv]
    simp [sentStep, sendStep, State.record, State.setAwaiting, drawsFree, hsend, hs, hr, hmax, hawaiting]
  simp [transacted, transact, receiveResponse, conclusion, State.report, hsend, hrecv, hafter]

theorem transacted_of_response {s : State} {sa : List Reply} {r : Bytes} {ra : List RecvAnswer} (frame : Bytes)
    (value : Bytes → Result) (h : Ready s) (hmax : s.cfg.rxMax = 1024) (hs : s.sendAnswers = .ok :: sa)
    (hr : s.recvAnswers = .ok r :: ra) (hlen : r.length ≤ 1024) :
    transacted frame value s = { s with
      sendAnswers := sa, recvAnswers := ra, history := s.history ++ [.send frame .ok, .recv 1024 (.ok r)],
      results := s.results ++ [value r] } := by
  obtain ⟨-, -, -, hawaiting⟩ := h
  rw [transacted, transact_of_cons frame hs hr, hmax, List.take_of_length_le hlen, ← hawaiting]
  simp [conclusion, State.report, residue, hlen]

/-! ### Which transaction an accessor runs -/

/-- The commands of `reads` are those of the catalog's readable registers, with the register's id and shape. -/
theorem reg_of_mem_reads {p : Instr × Byte × Shape} (hp : p ∈ reads) :
    ∃ r, readInstr r = some p.1 ∧ r.id = p.2.1 ∧ r.shape = p.2.2 := by
  have hall : ∀ q ∈ reads, ∃ r ∈ Reg.all, readInstr r = some q.1 ∧ r.id = q.2.1 ∧ r.shape = q.2.2 := by decide
  obtain ⟨r, -, hr⟩ := hall p hp
  exact ⟨r, hr⟩

theorem mem_reads_of_mem_floatReads {p : Instr × Byte} (hp : p ∈ floatReads) : (p.1, p.2, Shape.f64) ∈ reads :=
  List.mem_append_left _ (List.mem_map_of_mem hp)

theorem getTcs_mem_reads : (Instr.getTcs, (0x05 : Byte), Shape.u8) ∈ reads := by decide
theorem getVersion_mem_reads : (Instr.getVersion, (0x0B : Byte), Shape.bytes 7) ∈ reads := by decide
theorem getMac_mem_reads : (Instr.getMac, (0x13 : Byte), Shape.bytes 17) ∈ reads := by decide

/-- Every shape that is read needs less than one receive takes. -/
theorem leastLength_le_of_mem_reads {p : Instr × Byte × Shape} (hp : p ∈ reads) : leastLength p.2.2 ≤ 1024 := by
  have hall : ∀ q ∈ reads, leastLength q.2.2 ≤ 1024 := by decide
  exact hall p hp

/-- A response below the least length of its shape (spec/60_exceptions.md R183). -/
theorem decodeValue_of_short {shape : Shape} {r : Bytes} (h : r.length < leastLength shape) :
    decodeValue shape r = .error (.shortResponse (leastLength shape) r.length) := by
  cases shape with
  | f64 => exact (decodeValue_f64 r).trans (if_pos h)
  | u8 => exact (decodeValue_u8 r).trans (if_pos h)
  | bytes n => exact (decodeValue_bytes n r).trans (if_pos h)

theorem exec_read_of_ready {p : Instr × Byte × Shape} (hp : p ∈ reads) {s : State} (h : Ready s) :
    exec p.1 s = .next (transacted [0x10, 0x00, 0x01, p.2.1] (decodeValue p.2.2) s) := by
  obtain ⟨r, hr, hid, hshape⟩ := reg_of_mem_reads hp
  rw [exec_of_readInstr hr, readRegister_of_ready r h, hid, hshape, encRead]

/-- An attenuation is sent or, before anything is sent, raises `InvalidArgument` (spec/41_transactions.md R105). -/
theorem exec_setAtt_of_ready (v : Word64) {s : State} (h : Ready s) :
    exec (.setAtt v) s =
      if attAccepted v then .next (transacted (encode (.setAtt v)) acknowledged s)
      else .next (s.report (.error (.invalidArgument .attenuation))) := by
  have ⟨_, _, hbusy, hawaiting⟩ := h
  rw [exec, execSetAtt, accepted_of_ready h, raise_setBusy, raise_of_rest _ hbusy hawaiting,
    sendWrite_of_ready h rfl, encode]

/-- A temperature-control status is sent or silently ignored (spec/41_transactions.md R113). -/
theorem exec_setTcs_of_ready (v : Int) {s : State} (h : Ready s) :
    exec (.setTcs v) s =
      if v = 0 ∨ v = 1 then .next (transacted (encode (.setTcs v)) acknowledged s)
      else .next (s.report (.ok .unit)) := by
  have ⟨_, _, hbusy, _⟩ := h
  rw [exec, execSetTcs, accepted_of_ready h, complete_setBusy, complete_of_rest _ hbusy, sendWrite_of_ready h rfl,
    encode]

theorem exec_setIp_of_length {a : Bytes} (h : a.length ≤ 16) (s : State) :
    exec (.setIp a) s = writeRegister .ip (ipPayload a) s :=
  if_neg (Nat.not_lt.mpr h)

/-- A write of the host whose operand is well-formed is its frame and the drain (spec/41_transactions.md R102). -/
theorem exec_write_of_ready {i : Instr} (hi : isHostWrite i = true) (hw : WellFormed i = true) {s : State}
    (h : Ready s) : exec i s = .next (transacted (encode i) acknowledged s) := by
  cases i with
  | setSpAc | setSpBd | setHeatAc | setHeatBd | reset
  | setPidAcKc | setPidAcTi | setPidAcTd | setPidBdKc | setPidBdTi | setPidBdTd =>
    exact writeRegister_of_ready h rfl
  | setAtt v => exact (exec_setAtt_of_ready v h).trans (if_pos hw)
  | setTcs v => exact (exec_setTcs_of_ready v h).trans (if_pos (by simpa [WellFormed] using hw))
  | setIp a =>
    have ha : a.length ≤ 16 := by simpa [WellFormed] using hw
    have hlen : lenByte (ipPayload a).length = some 0x11 := by rw [ipPayload_length ha, lenByte_sixteen]
    exact (exec_setIp_of_length ha s).trans (writeRegister_of_ready h hlen)
  | _ => cases hi

/-- The frame of an address write (spec/30_encoding.md R58). -/
theorem encode_setIp {a : Bytes} (h : a.length ≤ 16) :
    encode (.setIp a) = [0x20, 0x00, 0x11, 0x12] ++ a ++ List.replicate (16 - a.length) 0x00 := by
  rw [encode, writeFrame_eq (len := 0x11) (by rw [ipPayload_length h, lenByte_sixteen]), ipPayload, padRight,
    List.append_assoc]
  rfl

/-- The ten unconstrained float writes are host writes of every pattern, with the frame of spec/30_encoding.md R62. -/
theorem hostWrite_of_mem_floatWrites {v : Word64} {p : Instr × Byte} (hp : p ∈ floatWrites v) :
    isHostWrite p.1 = true ∧ WellFormed p.1 = true ∧ encode p.1 = [0x20, 0x00, 0x09, p.2] ++ le64 v := by
  unfold floatWrites at hp
  fin_cases hp <;> exact ⟨rfl, rfl, rfl⟩

/-- A read of a ready block with a whole response. -/
theorem exec_read_answered {p : Instr × Byte × Shape} (hp : p ∈ reads) {s : State} {sa : List Reply} {r : Bytes}
    {ra : List RecvAnswer} (h : Ready s) (hmax : s.cfg.rxMax = 1024) (hs : s.sendAnswers = .ok :: sa)
    (hr : s.recvAnswers = .ok r :: ra) (hlen : r.length ≤ 1024) :
    exec p.1 s = .next { s with
      sendAnswers := sa, recvAnswers := ra,
      history := s.history ++ [.send [0x10, 0x00, 0x01, p.2.1] .ok, .recv 1024 (.ok r)],
      results := s.results ++ [decodeValue p.2.2 r] } := by
  rw [exec_read_of_ready hp h, transacted_of_response _ _ h hmax hs hr hlen]

/-- A read of a ready block, whatever the environment answers. -/
theorem exec_read_ended {p : Instr × Byte × Shape} (hp : p ∈ reads) {value : Bytes → Result}
    (hvalue : ∀ r, decodeValue p.2.2 r = value r) {s : State} (h : Ready s) (hmax : s.cfg.rxMax = 1024) :
    ∃ t events x, exec p.1 s = .next t ∧ Went [0x10, 0x00, 0x01, p.2.1] events x ∧
      x = outcomeOf [0x10, 0x00, 0x01, p.2.1] s ∧ Ended s t events (conclusion value x) := by
  obtain ⟨events, hwent, hended⟩ := transacted_ended [0x10, 0x00, 0x01, p.2.1] value h hmax
  refine ⟨_, events, _, ?_, hwent, rfl, hended⟩
  rw [exec_read_of_ready hp h, funext hvalue]

/-- A write of a ready block with an acknowledgment. -/
theorem exec_write_answered {i : Instr} (hi : isHostWrite i = true) (hw : WellFormed i = true) {s : State}
    {sa : List Reply} {r : Bytes} {ra : List RecvAnswer} (h : Ready s) (hmax : s.cfg.rxMax = 1024)
    (hs : s.sendAnswers = .ok :: sa) (hr : s.recvAnswers = .ok r :: ra) (hlen : r.length ≤ 1024) :
    exec i s = .next { s with
      sendAnswers := sa, recvAnswers := ra, history := s.history ++ [.send (encode i) .ok, .recv 1024 (.ok r)],
      results := s.results ++ [.ok .unit] } := by
  rw [exec_write_of_ready hi hw h, transacted_of_response _ _ h hmax hs hr hlen, acknowledged]

/-- A write of a ready block, whatever the environment answers. -/
theorem exec_write_ended {i : Instr} (hi : isHostWrite i = true) (hw : WellFormed i = true) {s : State} (h : Ready s)
    (hmax : s.cfg.rxMax = 1024) :
    ∃ t events x, exec i s = .next t ∧ Went (encode i) events x ∧ x = outcomeOf (encode i) s ∧
      Ended s t events (conclusion acknowledged x) := by
  obtain ⟨events, hwent, hended⟩ := transacted_ended (encode i) acknowledged h hmax
  exact ⟨_, events, _, exec_write_of_ready hi hw h, hwent, rfl, hended⟩

/-! ### Blocks that are not ready (spec/41_transactions.md R134) -/

theorem accepted_of_closed {s : State} (body : State → Host.Outcome State Fault Refusal) (hcreated : s.created = true)
    (hbusy : s.busy = false) (hawaiting : s.awaiting = false) (hconn : s.conn = .closed) :
    accepted s body = .next (s.report (.error (.transport .send))) := by
  rw [← raise_of_rest _ hbusy hawaiting]
  simp [accepted, hcreated, hbusy, hawaiting, hconn]

theorem accepted_of_occupied {s : State} (body : State → Host.Outcome State Fault Refusal)
    (hcreated : s.created = true) (h : s.busy = true ∨ s.awaiting = true) : accepted s body = .refused .busy := by
  have hoccupied : (s.busy || s.awaiting) = true := Bool.or_eq_true_iff.mpr h
  rw [accepted, if_pos hcreated, if_pos hoccupied]

theorem accepted_of_no_block {s : State} (body : State → Host.Outcome State Fault Refusal)
    (hcreated : s.created = false) : accepted s body = .refused .noBlock :=
  if_neg (by simp [hcreated])

/-- Every accessor goes through the one acceptance, an address write where its operand fits. -/
theorem exec_accessor_accepted {i : Instr} (hi : isAccessor i = true) (hip : ∀ a, i = .setIp a → a.length ≤ 16) :
    ∃ body, ∀ s, exec i s = accepted s body := by
  obtain hwrite | hread := Bool.or_eq_true_iff.mp hi
  · cases i with
    | setSpAc | setSpBd | setHeatAc | setHeatBd | reset
    | setPidAcKc | setPidAcTi | setPidAcTd | setPidBdKc | setPidBdTi | setPidBdTd => exact ⟨_, fun _ => rfl⟩
    | setAtt v => exact ⟨_, execSetAtt.eq_1 v⟩
    | setTcs v => exact ⟨_, execSetTcs.eq_1 v⟩
    | setIp a => exact ⟨_, exec_setIp_of_length (hip a rfl)⟩
    | _ => cases hwrite
  · obtain ⟨p, hp, hpi⟩ := List.any_eq_true.mp hread
    obtain ⟨r, hr⟩ := exists_reg_of_mem_reads hp
    rw [beq_iff_eq.mp hpi] at hr
    exact ⟨_, exec_of_readInstr hr⟩

/-! ### The permitted attenuations (spec/41_transactions.md R105) -/

theorem attAccepted_of_mem {v : Word64} (h : v ∈ attSet) : attAccepted v = true := by
  simp [attAccepted, h]

theorem attAccepted_of_not_mem {v : Word64} (h : v ∉ attSet) (hne : v ≠ negZero) : attAccepted v = false := by
  simp [attAccepted, h, hne]

theorem attAccepted_negZero : attAccepted negZero = Config.attNegZeroOk := by
  have hmem : negZero ∉ attSet := by decide
  simp [attAccepted, hmem]

/-! ### What a step runs -/

theorem step_of_busy {s : State} {i : Instr} (hbusy : s.busy = true) (hnext : nextFrame s = some i) :
    step s = exec i s := by
  simp [step, stepUpload, hbusy, hnext]

theorem step_of_pending {s : State} {c : Command} {rest : List Command} (hbusy : s.busy = false)
    (hpending : s.pending = c :: rest) : step s = runCommand c { s with pending := rest } := by
  simp [step, stepCommand, hbusy, hpending]

theorem step_of_no_command {s : State} (hbusy : s.busy = false) (hpending : s.pending = []) : step s = .next s := by
  simp [step, stepCommand, hbusy, hpending]

theorem runFrame_of_decoded {s : State} {b : Bytes} {i : Instr} (h : decodeRequest s.fwState b = .ok i) :
    runFrame b s = exec i s := by
  simp only [runFrame, h]

theorem runFrame_of_rejected {s : State} {b : Bytes} {why : Reject} (h : decodeRequest s.fwState b = .error why) :
    runFrame b s = .refused (.badFrame why) := by
  simp only [runFrame, h]

/-! ### The obligations -/

/-- Settles O17, by the three endings of the read's transaction; a response too short for its shape is shorter than one
receive takes. -/
theorem readsEndWithTheirErrors : Obligations.ReadsEndWithTheirErrors := by
  intro p hp s sa ra hready hmax
  have hexec := exec_read_of_ready hp hready
  refine ⟨fun hs => ?_, fun hs hr => ?_, fun r hs hr hshort => ?_⟩
  · rw [hexec, transacted_of_send_failed _ _ hs]
  · rw [hexec, transacted_of_recv_failed _ _ hready hmax hs hr]
  · have hlen : r.length ≤ 1024 := (hshort.trans_le (leastLength_le_of_mem_reads hp)).le
    rw [exec_read_answered hp hready hmax hs hr hlen, decodeValue_of_short hshort]

/-- Settles O18: the decoder of the binary64 shape asks for 11 bytes. -/
theorem floatReadsEndAsTheirRulesSay : Obligations.FloatReadsEndAsTheirRulesSay :=
  fun _ hp _ hready hmax => exec_read_ended (mem_reads_of_mem_floatReads hp) decodeValue_f64 hready hmax

/-- Settles O19: the decoders of the other shapes ask for 4, 10 and 20 bytes. -/
theorem otherReadsEndAsTheirRulesSay : Obligations.OtherReadsEndAsTheirRulesSay :=
  fun _ hready hmax =>
    ⟨exec_read_ended getTcs_mem_reads decodeValue_u8 hready hmax,
      exec_read_ended getVersion_mem_reads (decodeValue_bytes 7) hready hmax,
      exec_read_ended getMac_mem_reads (decodeValue_bytes 17) hready hmax⟩

/-- Settles O22: a float write is a host write with a frame of twelve bytes, and an acknowledgment is not judged. -/
theorem floatWritesEndAsTheirRulesSay : Obligations.FloatWritesEndAsTheirRulesSay := by
  intro v p hp s hready hmax
  obtain ⟨hwrite, hwf, henc⟩ := hostWrite_of_mem_floatWrites hp
  exact henc ▸ exec_write_ended hwrite hwf hready hmax

/-- Settles O29, by the one transaction of every write. -/
theorem writesEndAsTheirRulesSay : Obligations.WritesEndAsTheirRulesSay :=
  fun _ _ hwrite hwf hready hmax => exec_write_ended hwrite hwf hready hmax

/-- Settles O30: both runs end in the state of an answered write, in which the acknowledgment stands in the history
alone. -/
theorem acknowledgmentContentIsIgnored : Obligations.AcknowledgmentContentIsIgnored := by
  intro i s r r' sa ra hwrite hwf hready hmax hs hlen hlen'
  have hrun (q : Bytes) (hq : q.length ≤ 1024) :=
    exec_write_answered (s := { s with recvAnswers := .ok q :: ra }) hwrite hwf hready hmax hs rfl hq
  exact ⟨_, _, hrun r hlen, hrun r' hlen', rfl⟩

/-- Settles O31, by the three ways the acceptance ends without running its body. -/
theorem accessorsNeedAReadyBlock : Obligations.AccessorsNeedAReadyBlock := by
  intro i s hi hip
  obtain ⟨body, hexec⟩ := exec_accessor_accepted hi hip
  rw [hexec]
  exact ⟨accepted_of_closed body, accepted_of_occupied body, accepted_of_no_block body⟩

/-- Settles O11, by evaluation of the 64 patterns. -/
theorem permittedAttenuationsAreHalfSteps : Obligations.PermittedAttenuationsAreHalfSteps :=
  ⟨by decide, by decide⟩

/-- Settles O13: the drain reports success and does not look at the response. -/
theorem acknowledgmentIsDrained : Obligations.AcknowledgmentIsDrained :=
  fun _ _ => rfl

/-- Settles O14: of 11 bytes or more the decoder returns the eight behind the first three. -/
theorem floatReadsReturnTheValue : Obligations.FloatReadsReturnTheValue := by
  intro p hp s r sa ra hready hmax hs hr hlong hlen
  rw [exec_read_answered (mem_reads_of_mem_floatReads hp) hready hmax hs hr hlen, decodeValue_f64,
    if_neg (Nat.not_lt.mpr hlong)]

/-- Settles O15: of 4 bytes or more the decoder returns the one behind the first three. -/
theorem statusReadReturnsTheByte : Obligations.StatusReadReturnsTheByte := by
  intro s r sa ra hready hmax hs hr hlong hlen
  rw [exec_read_answered getTcs_mem_reads hready hmax hs hr hlen, decodeValue_u8, if_neg (Nat.not_lt.mpr hlong)]

/-- Settles O16: of 10 or of 20 bytes or more the decoder returns the 7 or the 17 behind the first three. -/
theorem identifierReadsReturnTheBytes : Obligations.IdentifierReadsReturnTheBytes := by
  intro s r sa ra hready hmax hs hr hlen
  refine ⟨fun hlong => ?_, fun hlong => ?_⟩
  · rw [exec_read_answered getVersion_mem_reads hready hmax hs hr hlen, decodeValue_bytes,
      if_neg (Nat.not_lt.mpr hlong)]
  · rw [exec_read_answered getMac_mem_reads hready hmax hs hr hlen, decodeValue_bytes,
      if_neg (Nat.not_lt.mpr hlong)]

/-- Settles O21: an answered host write with the frame of twelve bytes. -/
theorem floatWritesSendThePattern : Obligations.FloatWritesSendThePattern := by
  intro v p hp s r sa ra hready hmax hs hr hlen
  obtain ⟨hwrite, hwf, henc⟩ := hostWrite_of_mem_floatWrites hp
  rw [exec_write_answered hwrite hwf hready hmax hs hr hlen, henc]

/-- Settles O23: the 64 patterns are accepted. -/
theorem permittedAttenuationIsSent : Obligations.PermittedAttenuationIsSent :=
  fun v _ _ _ _ hv hready hmax hs hr hlen =>
    exec_write_answered (i := .setAtt v) rfl (attAccepted_of_mem hv) hready hmax hs hr hlen

/-- Settles O24: any other pattern is not accepted, so nothing is sent. -/
theorem otherAttenuationIsInvalid : Obligations.OtherAttenuationIsInvalid := by
  intro v s hv hne hready
  rw [exec_setAtt_of_ready v hready, attAccepted_of_not_mem hv hne]
  rfl

/-- Settles O25: negative zero is outside the 64, so its acceptance is the parameter. -/
theorem negativeZeroAttenuationFollowsTheParameter : Obligations.NegativeZeroAttenuationFollowsTheParameter := by
  intro s r sa ra hready hmax hs hr hlen
  refine (exec_setAtt_of_ready negZero hready).trans ?_
  rw [attAccepted_negZero, transacted_of_response _ _ hready hmax hs hr hlen]
  rfl

/-- Settles O26, by the two cases of the operand. -/
theorem statusWriteSendsZeroAndOneOnly : Obligations.StatusWriteSendsZeroAndOneOnly := by
  refine ⟨fun v s r sa ra hv hready hmax hs hr hlen => ?_, fun v s h0 h1 hready => ?_⟩
  · obtain rfl | rfl := hv <;> exact exec_write_answered rfl rfl hready hmax hs hr hlen
  · exact (exec_setTcs_of_ready v hready).trans (if_neg (not_or.mpr ⟨h0, h1⟩))

/-- Settles O27: the reset is a host write of one fixed frame. -/
theorem softwareResetSendsItsFrame : Obligations.SoftwareResetSendsItsFrame :=
  fun _ _ _ _ hready hmax hs hr hlen => exec_write_answered rfl rfl hready hmax hs hr hlen

/-- Settles O28: an operand that fits is padded to the sixteen bytes of the table; the bound is tested before the
block. -/
theorem addressWriteIsZeroPadded : Obligations.AddressWriteIsZeroPadded := by
  refine ⟨fun a s r sa ra ha hready hmax hs hr hlen => ?_, fun a s ha => if_pos ha⟩
  rw [exec_write_answered rfl (by simpa [WellFormed] using ha) hready hmax hs hr hlen, encode_setIp ha]

/-- Settles O48, by what the step takes and what the decoder answers. -/
theorem stepRunsTheDecodedInstruction : Obligations.StepRunsTheDecodedInstruction := by
  refine ⟨fun s b rest i hbusy hpending hdec => ?_, fun s b rest why hbusy hpending hdec => ?_,
    fun _ _ _ hbusy hpending => step_of_pending hbusy hpending, fun _ _ => step_of_busy, fun _ => step_of_no_command⟩
  · exact (step_of_pending hbusy hpending).trans (runFrame_of_decoded hdec)
  · exact (step_of_pending hbusy hpending).trans (runFrame_of_rejected hdec)

end Sys2Proof.Proofs

/-! PROOFS. The version string (spec/42_firmware_upload.md R152): how a string is cut at its separators, and which
strings parse. -/

namespace Sys2Proof.Proofs

open Sys2Proof.Machine Sys2Proof.Safety

/-! ### Cutting at the separators -/

/-- Every text has a first part, so the last branch of `splitVersion` is never taken. -/
theorem splitVersion_ne_nil (v : Text) : splitVersion v ≠ [] := by
  fun_cases splitVersion v <;> simp

theorem splitVersion_cons_separator {x : Char} (v : Text) (hx : isVersionSeparator x = true) :
    splitVersion (x :: v) = [] :: splitVersion v := by
  simp [splitVersion, hx]

/-- Any other character goes to the front of the first part. -/
theorem splitVersion_cons_of_cut {x : Char} {v part : Text} {parts : List Text}
    (hx : isVersionSeparator x = false) (hv : splitVersion v = part :: parts) :
    splitVersion (x :: v) = (x :: part) :: parts := by
  simp [splitVersion, hx, hv]

/-- k separators cut a text into k + 1 parts. -/
theorem splitVersion_length (v : Text) : (splitVersion v).length = v.countP isVersionSeparator + 1 := by
  induction v with
  | nil => rfl
  | cons x v ih =>
    cases hx : isVersionSeparator x with
    | true => simp [splitVersion_cons_separator v hx, hx, ih]
    | false =>
      obtain ⟨part, parts, hv⟩ := List.exists_cons_of_ne_nil (splitVersion_ne_nil v)
      simpa [splitVersion_cons_of_cut hx hv, hx, hv] using ih

theorem splitVersion_of_no_separator {a : Text} (ha : a.any isVersionSeparator = false) : splitVersion a = [a] := by
  induction a with
  | nil => rfl
  | cons x a ih =>
    obtain ⟨hx, ha⟩ := Bool.or_eq_false_iff.mp ha
    exact splitVersion_cons_of_cut hx (ih ha)

theorem splitVersion_append_separator {a : Text} {x : Char} (v : Text) (ha : a.any isVersionSeparator = false)
    (hx : isVersionSeparator x = true) : splitVersion (a ++ x :: v) = a :: splitVersion v := by
  induction a with
  | nil => exact splitVersion_cons_separator v hx
  | cons y a ih =>
    obtain ⟨hy, ha⟩ := Bool.or_eq_false_iff.mp ha
    exact splitVersion_cons_of_cut hy (ih ha)

/-- Two separators between three parts that hold none give back the three parts. -/
theorem splitVersion_three {a b c : Text} {x y : Char} (hx : isVersionSeparator x = true)
    (hy : isVersionSeparator y = true) (ha : a.any isVersionSeparator = false) (hb : b.any isVersionSeparator = false)
    (hc : c.any isVersionSeparator = false) : splitVersion (a ++ x :: (b ++ y :: c)) = [a, b, c] := by
  rw [splitVersion_append_separator _ ha hx, splitVersion_append_separator _ hb hy, splitVersion_of_no_separator hc]

/-! ### Runs of digits -/

theorem isDigit_of_isVersionSeparator {c : Char} (h : isVersionSeparator c = true) : isDigit c = false := by
  obtain ((rfl | rfl) | rfl) | rfl : ((c = '.' ∨ c = ',') ∨ c = ' ') ∨ c = '_' := by
    simpa [isVersionSeparator] using h
  all_goals rfl

theorem no_separator_of_isDecimal {a : Text} (h : isDecimal a = true) : a.any isVersionSeparator = false := by
  obtain ⟨-, hdigits⟩ := Bool.and_eq_true_iff.mp h
  refine List.any_eq_false.mpr fun c hc hsep => ?_
  have hdigit : isDigit c = true := List.all_eq_true.mp hdigits c hc
  simp [isDigit_of_isVersionSeparator hsep] at hdigit

/-- Three runs of digits parse, unless one of them is above 255 (spec/42_firmware_upload.md R152). -/
theorem parseVersion_of_three {v a b c : Text} (hv : splitVersion v = [a, b, c]) (ha : isDecimal a = true)
    (hb : isDecimal b = true) (hc : isDecimal c = true) :
    parseVersion v =
      if decimalValue a ≤ 255 ∧ decimalValue b ≤ 255 ∧ decimalValue c ≤ 255 then
        .ok (BitVec.ofNat 8 (decimalValue a), BitVec.ofNat 8 (decimalValue b), BitVec.ofNat 8 (decimalValue c))
      else .error (.invalidArgument .versionComponent) := by
  simp [parseVersion, hv, ha, hb, hc]

/-- A text that is not three runs of digits is a format error. -/
theorem parseVersion_of_not_three {v : Text}
    (h : ∀ a b c, splitVersion v = [a, b, c] → ¬ (isDecimal a = true ∧ isDecimal b = true ∧ isDecimal c = true)) :
    parseVersion v = .error .invalidVersionFormat := by
  obtain ⟨a, b, c, hv, ha, hb, hc, -⟩ | ⟨-, hparse⟩ := parseVersion_cases v
  · exact absurd ⟨ha, hb, hc⟩ (h a b c hv)
  · exact hparse

/-! ### The obligations -/

/-- Settles O9: a run of digits holds no separator, so the text is cut into the three runs. -/
theorem threeDecimalComponentsParse : Obligations.ThreeDecimalComponentsParse := by
  intro a b c x y hx hy ha hb hc
  have hv := splitVersion_three hx hy (no_separator_of_isDecimal ha) (no_separator_of_isDecimal hb)
    (no_separator_of_isDecimal hc)
  exact parseVersion_of_three hv ha hb hc

/-- Settles O10: a text is cut into one part more than it has separators, and three parts come back as they are. -/
theorem otherVersionStringsAreFormatErrors : Obligations.OtherVersionStringsAreFormatErrors := by
  refine ⟨fun v hcount => ?_, fun a b c x y hx hy ha hb hc hdecimal => ?_⟩
  · refine parseVersion_of_not_three fun a b c hv => absurd (splitVersion_length v) ?_
    simpa [hv, eq_comm] using hcount
  · refine parseVersion_of_not_three fun a' b' c' hv => ?_
    rw [splitVersion_three hx hy ha hb hc] at hv
    cases hv
    exact hdecimal

end Sys2Proof.Proofs

/-! PROOFS. The firmware upload (spec/42_firmware_upload.md): first what the transaction of an upload frame leaves, for
every answer of the environment; then the acceptance of an upload; then an upload whose every request is answered, frame
by frame; then the obligations. -/

namespace Sys2Proof.Proofs

open Sys2Proof.Machine Sys2Proof.Safety

/-! ### The endings of a bare transaction (spec/41_transactions.md R100) -/

theorem transact_of_send_failed {s : State} {sa : List Reply} (req : Bytes) (hs : s.sendAnswers = .fail :: sa) :
    transact req s = (.failed .send,
      { s with sendAnswers := sa, history := s.history ++ [.send req .fail] }) := by
  have hsend : s.sendAnswer = .fail := sendAnswer_of_cons hs
  simp [transact, sendStep, State.record, drawsFree, hsend, hs]

theorem transact_of_recv_failed {s : State} {sa : List Reply} {ra : List RecvAnswer} (req : Bytes)
    (hs : s.sendAnswers = .ok :: sa) (hr : s.recvAnswers = .fail :: ra) :
    transact req s = (.failed .recv,
      { s with awaiting := false, sendAnswers := sa, recvAnswers := ra,
               history := s.history ++ [.send req .ok, .recv s.cfg.rxMax .fail] }) := by
  have hsend : s.sendAnswer = .ok := sendAnswer_of_cons hs
  obtain ⟨hrecv, hrest⟩ := recvAnswer_of_cons_fail (s := sentStep req s) hr
  rw [recvStep_recvAnswers] at hrest
  simp only [transact, hsend, receiveResponse, hrecv, recvStep, hrest]
  simp [sentStep, sendStep, State.record, State.setAwaiting, drawsFree, hsend, hs, hr]

theorem transact_of_response {s : State} {sa : List Reply} {r : Bytes} {ra : List RecvAnswer} (req : Bytes)
    (hmax : s.cfg.rxMax = 1024) (hs : s.sendAnswers = .ok :: sa) (hr : s.recvAnswers = .ok r :: ra)
    (hlen : r.length ≤ 1024) :
    transact req s = (.response r,
      { s with awaiting := false, sendAnswers := sa, recvAnswers := ra, history := s.history ++ answered req r }) := by
  simp [transact_of_cons req hs hr, hmax, List.take_of_length_le hlen, residue, hlen, answered]

/-! ### What an upload frame changes around its transaction -/

/-- An upload frame changes nothing but `img_off` before its transaction. -/
theorem exists_uploadStart_eq (i : Instr) (s : State) : ∃ off, uploadStart i s = s.setImgOff off := by
  cases i <;> exact ⟨_, rfl⟩

@[simp] theorem uploadStart_awaiting (i : Instr) (s : State) : (uploadStart i s).awaiting = s.awaiting := by
  cases i <;> rfl

@[simp] theorem uploadStart_busy (i : Instr) (s : State) : (uploadStart i s).busy = s.busy := by
  cases i <;> rfl

@[simp] theorem uploadStart_fwState (i : Instr) (s : State) : (uploadStart i s).fwState = s.fwState := by
  cases i <;> rfl

@[simp] theorem uploadStart_history (i : Instr) (s : State) : (uploadStart i s).history = s.history := by
  cases i <;> rfl

@[simp] theorem uploadStart_pending (i : Instr) (s : State) : (uploadStart i s).pending = s.pending := by
  cases i <;> rfl

@[simp] theorem uploadStart_results (i : Instr) (s : State) : (uploadStart i s).results = s.results := by
  cases i <;> rfl

theorem uploadAdvance_frame (i : Instr) (s : State) :
    uploadAdvance i s = { s with
      busy := (uploadAdvance i s).busy, fwState := (uploadAdvance i s).fwState, imgOff := (uploadAdvance i s).imgOff,
      upload := (uploadAdvance i s).upload, results := (uploadAdvance i s).results } := by
  cases i <;> rfl

@[simp] theorem uploadAdvance_history (i : Instr) (s : State) : (uploadAdvance i s).history = s.history := by
  rw [uploadAdvance_frame]

@[simp] theorem uploadAdvance_pending (i : Instr) (s : State) : (uploadAdvance i s).pending = s.pending := by
  rw [uploadAdvance_frame]

theorem outcomeOf_uploadStart (frame : Bytes) (i : Instr) (s : State) :
    outcomeOf frame (uploadStart i s) = outcomeOf frame s := by
  obtain ⟨off, hstart⟩ := exists_uploadStart_eq i s
  rw [hstart]
  rfl

/-- An acknowledged frame leaves the upload running, or it was the end frame: the upload is `Finalized` and the command
has ended with OK (spec/42_firmware_upload.md R151, R157). -/
theorem uploadAdvance_running_or_finalized (i : Instr) {s : State} (hbusy : s.busy = true) :
    (uploadAdvance i s).busy = true ∨
      ((uploadAdvance i s).fwState = .finalized ∧ (uploadAdvance i s).results = s.results ++ [.ok .unit]) := by
  cases i with
  | fwEnd => exact .inr ⟨rfl, rfl⟩
  | _ => exact .inl hbusy

/-- An acknowledgment never aborts (spec/42_firmware_upload.md R158). -/
theorem uploadAdvance_fwState_ne_aborted (i : Instr) {s : State} (h : s.fwState ≠ .aborted) :
    (uploadAdvance i s).fwState ≠ .aborted := by
  cases i with
  | fwVersion | fwBegin | fwEnd => exact nofun
  | _ => exact h

/-! ### The frame the sequencer sends next -/

/-- What holds wherever the sequencer has a next frame. -/
theorem running_of_nextFrame {s : State} {i : Instr} (h : nextFrame s = some i) :
    s.busy = true ∧ s.awaiting = false ∧ s.fwState ≠ .aborted ∧ isUploadFrame i = true := by
  obtain ⟨u, -, -, hbusy, hawaiting, -, ⟨hfw, rfl⟩ | ⟨hfw, rfl⟩ | ⟨hfw, -, rfl⟩ | ⟨hfw, -, rfl⟩⟩ :=
    nextFrame_eq_some h
  all_goals exact ⟨hbusy, hawaiting, by simp [hfw], rfl⟩

/-- A chunk is at most 128 bytes (spec/42_firmware_upload.md R155). -/
theorem chunk_length_le_of_nextFrame {s : State} {c : Bytes} (h : nextFrame s = some (.fwChunk c)) :
    c.length ≤ chunkSize := by
  obtain ⟨u, -, -, -, -, -, ⟨-, hi⟩ | ⟨-, hi⟩ | ⟨-, -, hi⟩ | ⟨-, -, hi⟩⟩ := nextFrame_eq_some h <;> cases hi
  exact (imgRead_length ..).trans_le (Nat.min_le_left ..)

theorem uploadWrite_of_length {r : Reg} {payload : Bytes} {len : Byte} (advance : State → State) (s : State)
    (hlen : lenByte payload.length = some len) :
    uploadWrite r payload advance s = .next (finishUpload advance (transact (writeFrame r payload) s)) := by
  simp only [uploadWrite, encWrite_of_len hlen, writeFrame_eq hlen]

/-- The next frame of the sequencer is one transaction with its frame (spec/42_firmware_upload.md R159). -/
theorem exec_of_nextFrame {i : Instr} {s : State} (h : nextFrame s = some i) :
    exec i s = .next (finishUpload (uploadAdvance i) (transact (encode i) (uploadStart i s))) := by
  obtain ⟨-, -, -, hi⟩ := running_of_nextFrame h
  cases i with
  | fwVersion major minor patch =>
    have hlen := versionPayload_length major minor patch
    exact (if_pos h).trans (uploadWrite_of_length _ _ (by rw [hlen, lenByte_chunk]))
  | fwBegin | fwEnd => exact (if_pos h).trans (uploadWrite_of_length _ _ lenByte_one)
  | fwChunk c =>
    have hlen := chunkPayload_length (chunk_length_le_of_nextFrame h)
    exact (if_pos h).trans (uploadWrite_of_length _ _ (by rw [hlen, lenByte_chunk]))
  | _ => cases hi

/-- The frame of a chunk (spec/30_encoding.md R60, R62). -/
theorem encode_fwChunk {c : Bytes} (h : c.length ≤ chunkSize) :
    encode (.fwChunk c) = [0x20, 0x00, 0x81, 0x0A] ++ c ++ List.replicate (128 - c.length) 0xFF := by
  rw [encode, writeFrame_eq (len := 0x81) (by rw [chunkPayload_length h, lenByte_chunk]), chunkPayload, padRight,
    List.append_assoc]
  rfl

/-! ### Each ending of an upload frame -/

/-- `s` after the upload frame `i` whose acknowledgment was `r`. -/
def afterAck (i : Instr) (r : Bytes) (s : State) : State :=
  uploadAdvance i { uploadStart i s with
    sendAnswers := s.sendAnswers.tail, recvAnswers := s.recvAnswers.tail,
    history := s.history ++ answered (encode i) r }

theorem exec_upload_answered {i : Instr} {s : State} {r : Bytes} {sa : List Reply} {ra : List RecvAnswer}
    (h : nextFrame s = some i) (hmax : s.cfg.rxMax = 1024) (hs : s.sendAnswers = .ok :: sa)
    (hr : s.recvAnswers = .ok r :: ra) (hlen : r.length ≤ 1024) : exec i s = .next (afterAck i r s) := by
  obtain ⟨-, hawaiting, -, -⟩ := running_of_nextFrame h
  obtain ⟨off, hstart⟩ := exists_uploadStart_eq i s
  rw [exec_of_nextFrame h, afterAck, hstart, transact_of_response (s := s.setImgOff off) _ hmax hs hr hlen,
    ← hawaiting, hs, hr]
  rfl

/-- What an abort leaves where no request is unanswered (spec/42_firmware_upload.md R158). -/
theorem abortUpload_eq (e : Error) {s : State} (h : s.awaiting = false) :
    abortUpload e s = { s with
      fwState := .aborted, busy := false, upload := none, results := s.results ++ [.error e] } := by
  rw [abortUpload, raise, setAwaiting_of_eq (s := (s.setFw .aborted).setUpload none) h]
  rfl

theorem exec_upload_recv_failed {i : Instr} {s : State} {sa : List Reply} {ra : List RecvAnswer}
    (h : nextFrame s = some i) (hmax : s.cfg.rxMax = 1024) (hs : s.sendAnswers = .ok :: sa)
    (hr : s.recvAnswers = .fail :: ra) :
    exec i s = .next { s with
      sendAnswers := sa, recvAnswers := ra, fwState := .aborted, busy := false, upload := none,
      imgOff := (uploadStart i s).imgOff, history := s.history ++ [.send (encode i) .ok, .recv 1024 .fail],
      results := s.results ++ [.error (.transport .recv)] } := by
  obtain ⟨-, hawaiting, -, -⟩ := running_of_nextFrame h
  obtain ⟨off, hstart⟩ := exists_uploadStart_eq i s
  rw [exec_of_nextFrame h, hstart, transact_of_recv_failed (s := s.setImgOff off) _ hs hr, finishUpload,
    abortUpload_eq _ rfl, ← hmax]
  simp [hawaiting]

theorem exec_upload_send_failed {i : Instr} {s : State} {sa : List Reply} (h : nextFrame s = some i)
    (hs : s.sendAnswers = .fail :: sa) :
    exec i s = .next { s with
      sendAnswers := sa, fwState := .aborted, busy := false, upload := none,
      imgOff := (uploadStart i s).imgOff, history := s.history ++ [.send (encode i) .fail],
      results := s.results ++ [.error (.transport .send)] } := by
  obtain ⟨-, hawaiting, -, -⟩ := running_of_nextFrame h
  obtain ⟨off, hstart⟩ := exists_uploadStart_eq i s
  rw [exec_of_nextFrame h, hstart, transact_of_send_failed (s := s.setImgOff off) _ hs, finishUpload,
    abortUpload_eq]
  · rfl
  · exact hawaiting

/-! ### Whatever the environment answers -/

@[simp] theorem transact_results (req : Bytes) (s : State) : (transact req s).2.results = s.results := by
  rw [transact_frame]

@[simp] theorem transact_pending (req : Bytes) (s : State) : (transact req s).2.pending = s.pending := by
  rw [transact_frame]

theorem finishUpload_of_failed {x : Exchange × State} {place : Place} (advance : State → State)
    (h : x.1 = .failed place) : finishUpload advance x = abortUpload (.transport place) x.2 := by
  obtain ⟨_, s⟩ := x
  subst h
  rfl

theorem finishUpload_of_response {x : Exchange × State} {r : Bytes} (advance : State → State)
    (h : x.1 = .response r) : finishUpload advance x = advance x.2 := by
  obtain ⟨_, s⟩ := x
  subst h
  rfl

/-- The abort behind a transaction whose events were `events` leaves everything else as it was
(spec/42_firmware_upload.md R158). -/
theorem abortedFrom_transact {req : Bytes} {s : State} {events : List Event} (place : Place)
    (hawaiting : s.awaiting = false) (hhist : (transact req s).2.history = s.history ++ events) :
    AbortedFrom s (abortUpload (.transport place) (transact req s).2) events place s.imgOff := by
  have hframe := transact_frame req s
  rw [transact_awaiting hawaiting, hhist, ← hawaiting] at hframe
  rw [abortUpload_eq _ (transact_awaiting hawaiting), transact_results, hframe]
  rfl

theorem finishUpload_pending (i : Instr) (x : Exchange × State) :
    (finishUpload (uploadAdvance i) x).pending = x.2.pending := by
  obtain ⟨place, h⟩ | h := finishUpload_cases (uploadAdvance i) x
  · rw [h, abortUpload_pending]
  · rw [h, uploadAdvance_pending]

/-- An upload frame leaves the upload running, or the upload has ended (spec/42_firmware_upload.md R151, R163). -/
theorem finishUpload_running_or_ended (i : Instr) {x : Exchange × State} (hbusy : x.2.busy = true) :
    (finishUpload (uploadAdvance i) x).busy = true ∨
      (finishUpload (uploadAdvance i) x).fwState = .finalized ∨
      (finishUpload (uploadAdvance i) x).fwState = .aborted := by
  obtain ⟨place, h⟩ | h := finishUpload_cases (uploadAdvance i) x <;> rw [h]
  · exact .inr (.inr rfl)
  · exact (uploadAdvance_running_or_finalized i hbusy).imp_right fun ⟨hfinal, _⟩ => .inl hfinal

/-! ### The acceptance of an upload (spec/42_firmware_upload.md R150, R152) -/

/-- `s` with the upload `u` just accepted: it starts from `Idle` (spec/42_firmware_upload.md R162). -/
def startUpload (u : Upload) (s : State) : State :=
  { s with busy := true, fwState := .idle, upload := some u }

theorem runFwUpload_of_parsed {version : Text} {major minor patch : Byte} (image : Bytes) {s : State} (h : Ready s)
    (hparse : parseVersion version = .ok (major, minor, patch)) :
    runFwUpload version image s =
      .next (startUpload { major := major, minor := minor, patch := patch, image := image } s) := by
  rw [runFwUpload, accepted_of_ready h, hparse]
  rfl

theorem runFwUpload_of_not_parsed {version : Text} {e : Error} (image : Bytes) {s : State} (h : Ready s)
    (hparse : parseVersion version = .error e) :
    runFwUpload version image s = .next ((s.setFw .idle).report (.error e)) := by
  have ⟨_, _, hbusy, hawaiting⟩ := h
  rw [runFwUpload, accepted_of_ready h, hparse]
  exact congrArg _ (raise_of_rest (s := s.setFw .idle) e hbusy hawaiting)

/-! ### The upload in progress -/

/-- The upload `u` is in progress on an open connection, and no request is unanswered. -/
structure InProgress (u : Upload) (s : State) : Prop where
  created : s.created = true
  conn : s.conn = .opened
  busy : s.busy = true
  awaiting : s.awaiting = false
  upload : s.upload = some u

theorem inProgress_startUpload (u : Upload) {s : State} (h : Ready s) : InProgress u (startUpload u s) := by
  obtain ⟨hcreated, hconn, -, hawaiting⟩ := h
  exact ⟨hcreated, hconn, rfl, hawaiting, rfl⟩

theorem InProgress.nextFrame_of_idle {u : Upload} {s : State} (h : InProgress u s) (hfw : s.fwState = .idle) :
    nextFrame s = some (.fwVersion u.major u.minor u.patch) := by
  simp [nextFrame, h.created, h.conn, h.busy, h.awaiting, h.upload, hfw]

theorem InProgress.nextFrame_of_versionSent {u : Upload} {s : State} (h : InProgress u s)
    (hfw : s.fwState = .versionSent) : nextFrame s = some .fwBegin := by
  simp [nextFrame, h.created, h.conn, h.busy, h.awaiting, h.upload, hfw]

theorem InProgress.nextFrame_of_chunk {u : Upload} {s : State} (h : InProgress u s) (hfw : s.fwState = .uploading)
    (hchunk : imgRead u.image s.imgOff chunkSize ≠ []) :
    nextFrame s = some (.fwChunk (imgRead u.image s.imgOff chunkSize)) := by
  simp [nextFrame, h.created, h.conn, h.busy, h.awaiting, h.upload, hfw, hchunk]

theorem InProgress.nextFrame_of_image_end {u : Upload} {s : State} (h : InProgress u s) (hfw : s.fwState = .uploading)
    (hend : imgRead u.image s.imgOff chunkSize = []) : nextFrame s = some .fwEnd :=
  Proofs.nextFrame_of_image_end h.created h.conn h.busy h.awaiting h.upload hfw hend

/-! ### Answered requests, one after the other -/

/-- The environment answers the next sends with ok and their receives with `acks`, each within one receive; behind these
answers stand `sa` and `ra`. -/
structure Acknowledges (acks : List Bytes) (sa : List Reply) (ra : List RecvAnswer) (s : State) : Prop where
  rxMax : s.cfg.rxMax = 1024
  short : ∀ r ∈ acks, r.length ≤ 1024
  sends : s.sendAnswers = List.replicate acks.length .ok ++ sa
  recvs : s.recvAnswers = acks.map .ok ++ ra

/-- What an acknowledged frame leaves of the configuration and of the environment's answers, whatever the frame. -/
theorem afterAck_frame (i : Instr) (r : Bytes) (s : State) :
    (afterAck i r s).cfg = s.cfg ∧ (afterAck i r s).sendAnswers = s.sendAnswers.tail ∧
      (afterAck i r s).recvAnswers = s.recvAnswers.tail := by
  obtain ⟨off, hstart⟩ := exists_uploadStart_eq i s
  rw [afterAck, uploadAdvance_frame, hstart]
  exact ⟨rfl, rfl, rfl⟩

theorem Acknowledges.afterAck {r : Bytes} {acks : List Bytes} {sa : List Reply} {ra : List RecvAnswer} {s : State}
    (h : Acknowledges (r :: acks) sa ra s) (i : Instr) : Acknowledges acks sa ra (afterAck i r s) := by
  obtain ⟨hcfg, hsends, hrecvs⟩ := afterAck_frame i r s
  exact ⟨hcfg ▸ h.rxMax, fun q hq => h.short q (List.mem_cons_of_mem r hq), by rw [hsends, h.sends]; rfl,
    by rw [hrecvs, h.recvs]; rfl⟩

theorem run_succ_of_step {s t : State} (h : step s = .next t) (k : Nat) :
    Host.Core.run core (k + 1) s = Host.Core.run core k t := by
  have hcore : core.step s = .next t := h
  simp only [Host.Core.run, hcore]

/-- A run over the sequencer's next frame, acknowledged. -/
theorem run_succ_of_acknowledged {i : Instr} {r : Bytes} {acks : List Bytes} {sa : List Reply} {ra : List RecvAnswer}
    {s : State} (hnext : nextFrame s = some i) (h : Acknowledges (r :: acks) sa ra s) (k : Nat) :
    Host.Core.run core (k + 1) s = Host.Core.run core k (afterAck i r s) := by
  obtain ⟨hbusy, -, -, -⟩ := running_of_nextFrame hnext
  refine run_succ_of_step ((step_of_busy hbusy hnext).trans ?_) k
  exact exec_upload_answered hnext h.rxMax h.sends h.recvs (h.short r List.mem_cons_self)

theorem answeredAll_cons (frame r : Bytes) (frames acks : List Bytes) :
    answeredAll (frame :: frames) (r :: acks) = answered frame r ++ answeredAll frames acks := rfl

/-! ### The chunks of an image (spec/42_firmware_upload.md R155, R156) -/

/-- How many chunks are left of an image from its byte `off` on; from 0 on that is `chunkCount`. -/
def chunksLeft (image : Bytes) (off : Nat) : Nat :=
  (image.length - off + 127) / 128

/-- Without chunks left, the image has been read to its end. -/
theorem imgRead_of_chunksLeft_zero {image : Bytes} {off : Nat} (h : chunksLeft image off = 0) :
    imgRead image off chunkSize = [] ∧ image.length ≤ off := by
  unfold chunksLeft at h
  have hend : image.length ≤ off := by omega
  exact ⟨by simp [imgRead, List.drop_of_length_le hend], hend⟩

/-- With chunks left, the next read is not empty and stays within the image; behind it one chunk less is left, and it was
a whole chunk unless it was the last. -/
theorem imgRead_of_chunksLeft_succ {image : Bytes} {off n : Nat} (h : chunksLeft image off = n + 1) :
    imgRead image off chunkSize ≠ [] ∧ off + (imgRead image off chunkSize).length ≤ image.length ∧
      chunksLeft image (off + (imgRead image off chunkSize).length) = n ∧
      (n ≠ 0 → (imgRead image off chunkSize).length = chunkSize) := by
  have hlen := imgRead_length image off chunkSize
  have hsize : chunkSize = 128 := rfl
  unfold chunksLeft at h ⊢
  refine ⟨fun hnil => ?_, by omega, by omega, by omega⟩
  rw [hnil, List.length_nil] at hlen
  omega

/-- The chunk frames behind one chunk: a short chunk is the last. -/
theorem chunkFrames_succ {image : Bytes} {off n len : Nat} (hlen : n ≠ 0 → len = chunkSize) :
    chunkFrames image off (n + 1) =
      encode (.fwChunk (imgRead image off chunkSize)) :: chunkFrames image (off + len) n := by
  cases n with
  | zero => rfl
  | succ n => rw [hlen n.succ_ne_zero]; rfl

/-! ### The run of an answered upload (spec/42_firmware_upload.md R156, R159, R160) -/

/-- The state of a finalized upload whose transactions behind `s` were `events`. -/
def finalizedFrom (u : Upload) (sa : List Reply) (ra : List RecvAnswer) (events : List Event) (s : State) : State :=
  { s with
    fwState := .finalized, busy := false, upload := none, imgOff := u.image.length, sendAnswers := sa,
    recvAnswers := ra, history := s.history ++ events, results := s.results ++ [.ok .unit] }

/-- What an acknowledged frame that is not the last has sent belongs to the events of the finalized upload. -/
theorem finalizedFrom_afterAck {i : Instr} (h : i ≠ .fwEnd) (u : Upload) (sa : List Reply) (ra : List RecvAnswer)
    (events : List Event) (r : Bytes) (s : State) :
    finalizedFrom u sa ra events (afterAck i r s) = finalizedFrom u sa ra (answered (encode i) r ++ events) s := by
  rw [finalizedFrom, finalizedFrom, ← List.append_assoc]
  cases i with
  | fwEnd => exact absurd rfl h
  | _ => rfl

/-- From `Uploading` with `n` chunks left, the acknowledged upload sends these chunks and the end frame. -/
theorem run_of_uploading {u : Upload} {sa : List Reply} {ra : List RecvAnswer} {n : Nat} {acks : List Bytes}
    {s : State} (hs : InProgress u s) (hfw : s.fwState = .uploading) (hoff : s.imgOff ≤ u.image.length)
    (hleft : chunksLeft u.image s.imgOff = n) (hcount : acks.length = n + 1) (hack : Acknowledges acks sa ra s) :
    Host.Core.run core acks.length s =
      .next (finalizedFrom u sa ra
        (answeredAll (chunkFrames u.image s.imgOff n ++ [encode .fwEnd]) acks) s) := by
  induction n generalizing acks s with
  | zero =>
    obtain ⟨r, rfl⟩ := List.length_eq_one_iff.mp hcount
    obtain ⟨hend, hlen⟩ := imgRead_of_chunksLeft_zero hleft
    have hlast := hack.afterAck .fwEnd
    have hsa : s.sendAnswers.tail = sa := hlast.sends
    have hra : s.recvAnswers.tail = ra := hlast.recvs
    refine (run_succ_of_acknowledged (hs.nextFrame_of_image_end hfw hend) hack 0).trans ?_
    rw [finalizedFrom, ← hsa, ← hra, ← hoff.antisymm hlen]
    rfl
  | succ n ih =>
    obtain ⟨r, acks, rfl⟩ := List.exists_cons_of_length_eq_add_one hcount
    obtain ⟨hchunk, hwithin, hrest, hfull⟩ := imgRead_of_chunksLeft_succ hleft
    have hs' : InProgress u (afterAck (.fwChunk (imgRead u.image s.imgOff chunkSize)) r s) := { hs with }
    refine (run_succ_of_acknowledged (hs.nextFrame_of_chunk hfw hchunk) hack acks.length).trans ?_
    refine (ih hs' hfw hwithin hrest (Nat.succ.inj hcount) (hack.afterAck _)).trans ?_
    rw [finalizedFrom_afterAck (i := .fwChunk _) nofun, chunkFrames_succ hfull, List.cons_append, answeredAll_cons]
    rfl

theorem uploadFrames_eq (u : Upload) :
    uploadFrames u = encode (.fwVersion u.major u.minor u.patch) :: encode .fwBegin ::
      (chunkFrames u.image 0 (chunkCount u.image) ++ [encode .fwEnd]) := rfl

/-- From `Idle`, the acknowledged upload sends the version frame, the begin frame, and the rest from offset 0. -/
theorem run_of_idle {u : Upload} {sa : List Reply} {ra : List RecvAnswer} {acks : List Bytes} {s : State}
    (hs : InProgress u s) (hfw : s.fwState = .idle) (hcount : acks.length = 3 + chunkCount u.image)
    (hack : Acknowledges acks sa ra s) :
    Host.Core.run core acks.length s = .next (finalizedFrom u sa ra (answeredAll (uploadFrames u) acks) s) := by
  obtain _ | ⟨r, _ | ⟨r', acks⟩⟩ := acks
  · rw [List.length_nil] at hcount; omega
  · rw [List.length_singleton] at hcount; omega
  have hcount' : acks.length = chunkCount u.image + 1 := by
    rw [List.length_cons, List.length_cons] at hcount; omega
  have hversion := hs.nextFrame_of_idle hfw
  have hack₁ := hack.afterAck (.fwVersion u.major u.minor u.patch)
  have hs₁ : InProgress u (afterAck (.fwVersion u.major u.minor u.patch) r s) := { hs with }
  have hs₂ : InProgress u (afterAck .fwBegin r' (afterAck (.fwVersion u.major u.minor u.patch) r s)) := { hs with }
  refine (run_succ_of_acknowledged hversion hack (acks.length + 1)).trans ?_
  refine (run_succ_of_acknowledged (hs₁.nextFrame_of_versionSent rfl) hack₁ acks.length).trans ?_
  refine (run_of_uploading hs₂ rfl (Nat.zero_le _) rfl hcount' (hack₁.afterAck .fwBegin)).trans ?_
  rw [finalizedFrom_afterAck (i := .fwBegin) nofun, finalizedFrom_afterAck (i := .fwVersion _ _ _) nofun,
    uploadFrames_eq, answeredAll_cons, answeredAll_cons]
  rfl

/-! ### The obligations -/

/-- Settles O38: the one transaction of the next frame either fails, and aborts the upload, or is acknowledged. -/
theorem uploadStepAbortsExactlyOnTransportErrors : Obligations.UploadStepAbortsExactlyOnTransportErrors := by
  intro i s hnext hmax
  obtain ⟨hbusy, hawaiting, hfw, -⟩ := running_of_nextFrame hnext
  have hmax' : (uploadStart i s).cfg.rxMax = 1024 := (uploadStart_sameBlock i s).cfg ▸ hmax
  obtain ⟨events, hwent, hhist⟩ := transact_went (encode i) hmax'
  have hx : (transact (encode i) (uploadStart i s)).1 = outcomeOf (encode i) s :=
    (transact_fst _ _).trans (outcomeOf_uploadStart _ i s)
  refine ⟨_, events, _, (step_of_busy hbusy hnext).trans (exec_of_nextFrame hnext), hwent, hx,
    fun place hplace => ?_, fun r hr => ?_⟩
  · have haborted := abortedFrom_transact place (by simpa using hawaiting) hhist
    rw [finishUpload_of_failed _ hplace]
    cases i <;> exact haborted
  · rw [finishUpload_of_response _ hr]
    have hrun := uploadAdvance_running_or_finalized i (s := (transact (encode i) (uploadStart i s)).2)
      (by simpa using hbusy)
    refine ⟨uploadAdvance_fwState_ne_aborted i (by simpa using hfw), by simp [hhist], hrun.imp_right fun hend => ?_⟩
    obtain ⟨-, hresults⟩ := hend
    simpa using hresults

/-- Settles O42: the acceptance of the upload, and the run from `Idle`. -/
theorem answeredUploadFinalizes : Obligations.AnsweredUploadFinalizes := by
  intro s version image rest a b c acks sa ra hready hmax hpending hparse hcount hshort hsends hrecvs
  have ⟨_, _, hbusy, _⟩ := hready
  have haccept := (step_of_pending hbusy hpending).trans
    (runFwUpload_of_parsed image (s := { s with pending := rest }) hready hparse)
  have hstart := inProgress_startUpload { major := a, minor := b, patch := c, image := image }
    (s := { s with pending := rest }) hready
  refine (run_succ_of_step haccept acks.length).trans ?_
  refine (run_of_idle hstart rfl hcount ⟨hmax, hshort, hsends, hrecvs⟩).trans ?_
  rw [finalizedFrom, ← hbusy]
  rfl

/-- Settles O43, by what the step of a busy block runs and what its transaction leaves alone. -/
theorem runningUploadExcludesCommands : Obligations.RunningUploadExcludesCommands := by
  intro s t hbusy hstep
  obtain ⟨-, i, hnext, hexec⟩ | ⟨hrest, -⟩ | ⟨hrest, -⟩ := step_next hstep
  · obtain ⟨-, -, -, hi⟩ := running_of_nextFrame hnext
    obtain ⟨-, hcfg, hconn⟩ := exec_sameBlock hexec
    have ht := Host.Outcome.next.inj (hexec.symm.trans (exec_of_nextFrame hnext))
    have hpending : t.pending = s.pending := by
      rw [ht, finishUpload_pending, transact_pending, uploadStart_pending]
    have hend := finishUpload_running_or_ended i (x := transact (encode i) (uploadStart i s)) (by simpa using hbusy)
    rw [← ht] at hend
    exact ⟨hpending, hconn, hcfg, ⟨i, hnext, hi, hexec⟩, fun hidle => hend.resolve_left (by simp [hidle])⟩
  · rw [hbusy] at hrest; cases hrest
  · rw [hbusy] at hrest; cases hrest

/-- Settles O34: an acknowledged version frame, with its 128 bytes of payload written out. -/
theorem versionFrameCompletes : Obligations.VersionFrameCompletes := by
  intro major minor patch s r sa ra hnext hmax hs hr hlen
  obtain ⟨-, -, henc, -⟩ := versionPayloadIsZeroPadded major minor patch
  rw [exec_upload_answered hnext hmax hs hr hlen, afterAck, henc, hs, hr]
  rfl

/-- Settles O35, by the three endings of the begin frame. -/
theorem beginFrameCompletesOrAborts : Obligations.BeginFrameCompletesOrAborts := by
  refine fun s sa ra hnext hmax => ⟨fun r hs hr hlen => ?_, fun hs hr => ?_, fun hs => ?_⟩
  · rw [exec_upload_answered hnext hmax hs hr hlen, afterAck, hs, hr]
    rfl
  · exact exec_upload_recv_failed hnext hmax hs hr
  · exact exec_upload_send_failed hnext hs

/-- Settles O36: a chunk is at most 128 bytes, so its frame is the padded one. -/
theorem chunkFrameCompletes : Obligations.ChunkFrameCompletes := by
  intro c s r sa ra hnext hmax hs hr hlen
  rw [exec_upload_answered hnext hmax hs hr hlen, afterAck, encode_fwChunk (chunk_length_le_of_nextFrame hnext), hs, hr]
  rfl

/-- Settles O37, by the three endings of the end frame. -/
theorem endFrameCompletesOrAborts : Obligations.EndFrameCompletesOrAborts := by
  refine fun s sa ra hnext hmax => ⟨fun r hs hr hlen => ?_, fun hs hr => ?_, fun hs => ?_⟩
  · rw [exec_upload_answered hnext hmax hs hr hlen, afterAck, hs, hr]
    rfl
  · exact exec_upload_recv_failed hnext hmax hs hr
  · exact exec_upload_send_failed hnext hs

/-- Settles O40: the acceptance leaves an upload in progress in `Idle`, whose version frame is next. -/
theorem uploadIsAcceptedFromAnyState : Obligations.UploadIsAcceptedFromAnyState := by
  intro s version image rest a b c hready hpending hparse
  have ⟨_, _, hbusy, _⟩ := hready
  have haccept := (step_of_pending hbusy hpending).trans
    (runFwUpload_of_parsed image (s := { s with pending := rest }) hready hparse)
  exact ⟨_, haccept, rfl, (inProgress_startUpload _ hready).nextFrame_of_idle rfl⟩

/-- Settles O41: the parser's error ends the command before anything is sent. -/
theorem badVersionEndsInIdleWithNothingSent : Obligations.BadVersionEndsInIdleWithNothingSent := by
  intro s version image rest e hready hpending hparse
  have ⟨_, _, hbusy, _⟩ := hready
  exact (step_of_pending hbusy hpending).trans
    (runFwUpload_of_not_parsed image (s := { s with pending := rest }) hready hparse)

end Sys2Proof.Proofs

/-! PROOFS. The host's tests of an error (spec/60_exceptions.md R180 to R182): what each test catches, then what the
parser's errors are to them, then the obligation. -/

namespace Sys2Proof.Proofs

open Sys2Proof.Machine

/-- The test for `InvalidArgument` catches that error and the format error, its kind, and no other
(spec/60_exceptions.md R181, R182). -/
theorem isInvalidArgument_iff (e : Error) :
    e.isInvalidArgument = true ↔ (∃ operand, e = .invalidArgument operand) ∨ e = .invalidVersionFormat := by
  cases e <;> simp

theorem isInvalidArgument_of_isInvalidVersionFormat {e : Error} (h : e.isInvalidVersionFormat = true) :
    e.isInvalidArgument = true :=
  (isInvalidArgument_iff e).mpr (.inr ((Error.isInvalidVersionFormat_iff e).mp h))

/-- An error of the parser is the range error of three runs of digits, or the format error of another text
(spec/42_firmware_upload.md R152). -/
theorem error_of_parseVersion {version : Text} {e : Error} (h : parseVersion version = .error e) :
    (e = .invalidArgument .versionComponent ∧
      ∃ a b c, splitVersion version = [a, b, c] ∧ isDecimal a = true ∧ isDecimal b = true ∧ isDecimal c = true) ∨
    (e = .invalidVersionFormat ∧
      ¬ ∃ a b c, splitVersion version = [a, b, c] ∧ isDecimal a = true ∧ isDecimal b = true ∧ isDecimal c = true) := by
  obtain ⟨a, b, c, hv, ha, hb, hc, ⟨v, hok⟩ | hrange⟩ | ⟨hnot, hformat⟩ := parseVersion_cases version
  · rw [hok] at h; cases h
  · exact .inl ⟨Except.error.inj (h.symm.trans hrange), a, b, c, hv, ha, hb, hc⟩
  · exact .inr ⟨Except.error.inj (h.symm.trans hformat), hnot⟩

theorem isInvalidArgument_of_parseVersion {version : Text} {e : Error} (h : parseVersion version = .error e) :
    e.isInvalidArgument = true := by
  obtain ⟨rfl, -⟩ | ⟨rfl, -⟩ := error_of_parseVersion h <;> rfl

/-- The test for `InvalidVersionFormat` tells a text that is not three runs of digits from one whose numbers are too
large (spec/60_exceptions.md R182). -/
theorem isInvalidVersionFormat_iff_of_parseVersion {version : Text} {e : Error} (h : parseVersion version = .error e) :
    e.isInvalidVersionFormat = true ↔
      ¬ ∃ a b c, splitVersion version = [a, b, c] ∧ isDecimal a = true ∧ isDecimal b = true ∧ isDecimal c = true := by
  rw [Error.isInvalidVersionFormat_iff]
  obtain ⟨rfl, hthree⟩ | ⟨rfl, hnot⟩ := error_of_parseVersion h
  · exact iff_of_false nofun (not_not_intro hthree)
  · exact iff_of_true rfl hnot

/-- Settles O56, by what the two tests catch, the two errors of the parser, and the end of an upload whose version string
does not parse. -/
theorem versionErrorsAreCaughtAsInvalidArgument : Obligations.VersionErrorsAreCaughtAsInvalidArgument := by
  refine ⟨fun e => isInvalidArgument_of_isInvalidVersionFormat, isInvalidArgument_iff, fun operand => rfl,
    fun version e h => ⟨isInvalidArgument_of_parseVersion h, isInvalidVersionFormat_iff_of_parseVersion h⟩, ?_⟩
  intro s version image rest hready hpending hnone
  cases hparse : parseVersion version with
  | ok v => exact absurd hparse (hnone v)
  | error e =>
    exact ⟨e, isInvalidArgument_of_parseVersion hparse,
      badVersionEndsInIdleWithNothingSent s version image rest e hready hpending hparse⟩

end Sys2Proof.Proofs

/-! PROOFS. Construction and close (spec/70_reset_and_hazards.md R210, R212): what a listed answer makes of a connect,
then `OPEN` and `CLOSE` from each state that accepts them, then the obligations. -/

namespace Sys2Proof.Proofs

open Sys2Proof.Machine

/-! ### Connect (spec/20_memory.md R37) -/

/-- A listed answer is the one the next connect gets. -/
theorem connectAnswer_of_cons {s : State} {a : Reply} {rest : List Reply} (h : s.connectAnswers = a :: rest) :
    s.connectAnswer = a := by
  simp [State.connectAnswer, h]

/-- A connect with a listed answer uses up that answer, draws no free one, and leaves its event. -/
theorem connectStep_of_cons {s : State} {a : Reply} {rest : List Reply} (host : Text) (port : Nat)
    (h : s.connectAnswers = a :: rest) :
    connectStep host port s =
      { s with connectAnswers := rest, history := s.history ++ [.connect host port a] } := by
  simp [connectStep, State.record, drawsFree, connectAnswer_of_cons h, h]

/-! ### `OPEN` where no block exists -/

/-- The construction adds its two calls to the history and writes every element of the block; nothing of the block that
was there before shows (spec/10_state.md R23). -/
theorem constructed_eq (host : Text) (port : Nat) (s : State) :
    constructed host port s =
      { s with conn := .opened, awaiting := false, busy := false, fwState := .idle, imgOff := 0, upload := none,
               created := true,
               cfg := { host := host, port := port, timeout := 5, nodelay := true, rxMax := 1024 },
               history := s.history ++ [.setNoDelay, .setTimeout 5] } := by
  simp [constructed, State.record, Cfg.opened, timeoutSeconds, rxLimit]

theorem runOpen_of_connected {s : State} {ca : List Reply} (host : Text) (port : Nat) (hcreated : s.created = false)
    (h : s.connectAnswers = .ok :: ca) :
    runOpen host port s = .next { s with
      connectAnswers := ca, created := true, conn := .opened, awaiting := false, busy := false,
      fwState := .idle, imgOff := 0, upload := none,
      cfg := { host := host, port := port, timeout := 5, nodelay := true, rxMax := 1024 },
      history := s.history ++ [.connect host port .ok, .setNoDelay, .setTimeout 5],
      results := s.results ++ [.ok .unit] } := by
  have hopen : runOpen host port s = .next ((constructed host port (connectStep host port s)).report (.ok .unit)) := by
    simp [runOpen, hcreated, connectAnswer_of_cons h]
  rw [hopen, constructed_eq, connectStep_of_cons host port h]
  simp [State.report]

theorem runOpen_of_not_connected {s : State} {ca : List Reply} (host : Text) (port : Nat)
    (hcreated : s.created = false) (h : s.connectAnswers = .fail :: ca) :
    runOpen host port s = .next { s with
      connectAnswers := ca, history := s.history ++ [.connect host port .fail],
      results := s.results ++ [.error (.transport .connect)] } := by
  have hopen : runOpen host port s = .next ((connectStep host port s).report (.error (.transport .connect))) := by
    simp [runOpen, hcreated, connectAnswer_of_cons h]
  rw [hopen, connectStep_of_cons host port h, State.report]

/-! ### `CLOSE` of a block that rests -/

theorem runClose_of_opened {s : State} (hcreated : s.created = true) (hbusy : s.busy = false)
    (hawaiting : s.awaiting = false) (hconn : s.conn = .opened) :
    runClose s = .next (((s.record .close).setConn .closed).report (.ok .unit)) := by
  simp [runClose, hcreated, hbusy, hawaiting, hconn]

theorem runClose_of_closed {s : State} (hcreated : s.created = true) (hbusy : s.busy = false)
    (hawaiting : s.awaiting = false) (hconn : s.conn = .closed) :
    runClose s = .next (s.report (.ok .unit)) := by
  simp [runClose, hcreated, hbusy, hawaiting, hconn]

/-! ### The obligations -/

/-- Settles O45, by the two answers of the connect: the first constructs the block, the second leaves its event and the
error. -/
theorem openConstructsTheBlock : Obligations.OpenConstructsTheBlock := by
  intro s host port rest ca hcreated hbusy hpending
  have hstep : step s = runOpen host port { s with pending := rest } := step_of_pending hbusy hpending
  exact ⟨fun hanswer => hstep.trans (runOpen_of_connected host port hcreated hanswer),
    fun hanswer => hstep.trans (runOpen_of_not_connected host port hcreated hanswer)⟩

/-- Settles O46, by the two states of the connection of a block that rests. -/
theorem closeClosesOnce : Obligations.CloseClosesOnce := by
  intro s rest hcreated hbusy hawaiting hpending
  have hstep : step s = runClose { s with pending := rest } := step_of_pending hbusy hpending
  exact ⟨fun hconn => hstep.trans (runClose_of_opened hcreated hbusy hawaiting hconn),
    fun hconn => hstep.trans (runClose_of_closed hcreated hbusy hawaiting hconn)⟩

end Sys2Proof.Proofs

/-! PROOFS. No behaviour is stuck (spec/93_implementation_defined.md section 1; log 32): first the next frame of a running
upload, then that no command of the host answers a fault, so that a step can fault only where a running upload has no next
frame, then the obligation. -/

namespace Sys2Proof.Proofs

open Sys2Proof.Machine Sys2Proof.Safety

/-! ### A running upload has a next frame (spec/42_firmware_upload.md R151, R159) -/

theorem Running.inProgress {u : Upload} {s : State} (h : Running u s) : InProgress u s :=
  ⟨h.created, h.conn, h.busy, h.awaiting, h.upload⟩

theorem Running.exists_nextFrame {u : Upload} {s : State} (h : Running u s) : ∃ i, nextFrame s = some i := by
  obtain hfw | hfw | hfw := h.fwState
  · exact ⟨_, h.inProgress.nextFrame_of_idle hfw⟩
  · exact ⟨_, h.inProgress.nextFrame_of_versionSent hfw⟩
  · by_cases hend : imgRead u.image s.imgOff chunkSize = []
    · exact ⟨_, h.inProgress.nextFrame_of_image_end hfw hend⟩
    · exact ⟨_, h.inProgress.nextFrame_of_chunk hfw hend⟩

/-- Where a command runs in a sound state, its upload has a next frame. -/
theorem exists_nextFrame_of_inv {s : State} (h : Inv s) (hbusy : s.busy = true) : ∃ i, nextFrame s = some i := by
  obtain ⟨u, hu⟩ := running_of_inv h hbusy
  exact hu.exists_nextFrame

/-! ### No command answers a fault -/

/-- Acceptance adds no fault to those of the body it runs. -/
theorem accepted_ne_fault {s : State} {body : State → Host.Outcome State Fault Refusal} {f : Fault}
    (h : body (s.setBusy true) ≠ .fault f) : accepted s body ≠ .fault f := by
  unfold accepted
  split
  next =>
    split
    next => nofun
    next =>
      split
      next => nofun
      next => exact h
  next => nofun

theorem readRegister_ne_fault (r : Reg) (s : State) (f : Fault) : readRegister r s ≠ .fault f :=
  accepted_ne_fault nofun

theorem sendWrite_ne_fault (r : Reg) (payload : Bytes) (s : State) (f : Fault) : sendWrite r payload s ≠ .fault f := by
  cases h : encWrite r.id payload <;> simp [sendWrite, h]

theorem writeRegister_ne_fault (r : Reg) (payload : Bytes) (s : State) (f : Fault) :
    writeRegister r payload s ≠ .fault f :=
  accepted_ne_fault (sendWrite_ne_fault r payload _ f)

theorem execSetAtt_ne_fault (v : Word64) (s : State) (f : Fault) : execSetAtt v s ≠ .fault f := by
  apply accepted_ne_fault
  split
  next => exact sendWrite_ne_fault _ _ _ f
  next => nofun

theorem execSetTcs_ne_fault (v : Int) (s : State) (f : Fault) : execSetTcs v s ≠ .fault f := by
  apply accepted_ne_fault
  split
  next => exact sendWrite_ne_fault _ _ _ f
  next => nofun

theorem execSetIp_ne_fault (a : Bytes) (s : State) (f : Fault) : execSetIp a s ≠ .fault f := by
  unfold execSetIp
  split
  next => nofun
  next => exact writeRegister_ne_fault _ _ _ f

/-- An upload frame is one transaction where it is next, and refused anywhere else. -/
theorem exec_uploadFrame_ne_fault {i : Instr} (hi : isUploadFrame i = true) (s : State) (f : Fault) :
    exec i s ≠ .fault f := by
  by_cases hnext : nextFrame s = some i
  · rw [exec_of_nextFrame hnext]; nofun
  · obtain ⟨r, payload, -, hexec⟩ := exec_uploadFrame hi s
    rw [hexec, inSequence_refused _ hnext]; nofun

/-- No instruction of the opcode table answers a fault, in any state. -/
theorem exec_ne_fault (i : Instr) (s : State) (f : Fault) : exec i s ≠ .fault f := by
  cases i with
  | getAtt | getTempAc | getTempBd | getSpAc | getSpBd | getTcs | getHeatAc | getHeatBd | getVersion
  | getPidAcKc | getPidAcTi | getPidAcTd | getPidBdKc | getPidBdTi | getPidBdTd | getMac =>
    exact readRegister_ne_fault _ _ f
  | setSpAc | setSpBd | setHeatAc | setHeatBd | reset
  | setPidAcKc | setPidAcTi | setPidAcTd | setPidBdKc | setPidBdTi | setPidBdTd =>
    exact writeRegister_ne_fault _ _ _ f
  | setAtt => exact execSetAtt_ne_fault _ _ f
  | setTcs => exact execSetTcs_ne_fault _ _ f
  | setIp => exact execSetIp_ne_fault _ _ f
  | fwVersion | fwBegin | fwChunk | fwEnd => exact exec_uploadFrame_ne_fault rfl s f
  | rspF64 | rspU8 | rspB7 | rspB17 | ack => nofun

theorem runPure_ne_fault (res : Result) (s : State) (f : Fault) : runPure res s ≠ .fault f :=
  nofun

theorem runFrame_ne_fault (b : Bytes) (s : State) (f : Fault) : runFrame b s ≠ .fault f := by
  cases h : decodeRequest s.fwState b with
  | ok i => rw [runFrame_of_decoded h]; exact exec_ne_fault i s f
  | error why => rw [runFrame_of_rejected h]; nofun

theorem runEncWrite_ne_fault (reg : Byte) (payload : Bytes) (s : State) (f : Fault) :
    runEncWrite reg payload s ≠ .fault f := by
  unfold runEncWrite
  split
  next => exact runPure_ne_fault _ _ f
  next => nofun

theorem runUnpack_ne_fault (b : Bytes) (s : State) (f : Fault) : runUnpack b s ≠ .fault f := by
  unfold runUnpack
  split
  next => exact runPure_ne_fault _ _ f
  next => nofun

theorem runFwUpload_ne_fault (version : Text) (image : Bytes) (s : State) (f : Fault) :
    runFwUpload version image s ≠ .fault f := by
  apply accepted_ne_fault
  split <;> nofun

theorem runOpen_ne_fault (host : Text) (port : Nat) (s : State) (f : Fault) : runOpen host port s ≠ .fault f := by
  unfold runOpen
  split <;> nofun

theorem runClose_ne_fault (s : State) (f : Fault) : runClose s ≠ .fault f := by
  unfold runClose
  split
  next =>
    split
    next => nofun
    next => split <;> nofun
  next => nofun

/-- No command of the host answers a fault, in any state. -/
theorem runCommand_ne_fault (c : Command) (s : State) (f : Fault) : runCommand c s ≠ .fault f := by
  cases c with
  | call => exact exec_ne_fault _ _ f
  | frame => exact runFrame_ne_fault _ _ f
  | encRead | packF64 | decBytes | parseVersion => exact runPure_ne_fault _ _ f
  | encWrite => exact runEncWrite_ne_fault _ _ _ f
  | unpackF64 => exact runUnpack_ne_fault _ _ f
  | fwUpload => exact runFwUpload_ne_fault _ _ _ f
  | openBlock => exact runOpen_ne_fault _ _ _ f
  | closeBlock => exact runClose_ne_fault _ f

/-- A step faults only where a command runs and no upload has a next frame (log 32). -/
theorem step_fault {s : State} {f : Fault} (h : step s = .fault f) : s.busy = true ∧ nextFrame s = none := by
  cases hbusy : s.busy with
  | true =>
    refine ⟨rfl, Option.eq_none_iff_forall_ne_some.mpr fun i hnext => ?_⟩
    exact exec_ne_fault i s f ((step_of_busy hbusy hnext).symm.trans h)
  | false =>
    cases hpending : s.pending with
    | nil => rw [step_of_no_command hbusy hpending] at h; cases h
    | cons c rest => exact absurd ((step_of_pending hbusy hpending).symm.trans h) (runCommand_ne_fault _ _ f)

/-! ### The obligation -/

/-- Settles O55: the invariant gives a running upload its next frame, which is a transaction that always ends; and a step
faults only where a running upload has none. -/
theorem noStepOfASoundStateIsStuck : Obligations.NoStepOfASoundStateIsStuck := by
  refine ⟨fun s hs hbusy => ?_, fun s f hs hfault => ?_⟩
  · obtain ⟨i, hnext⟩ := exists_nextFrame_of_inv hs hbusy
    exact ⟨_, (step_of_busy hbusy hnext).trans (exec_of_nextFrame hnext)⟩
  · obtain ⟨hbusy, hnone⟩ := step_fault hfault
    obtain ⟨i, hnext⟩ := exists_nextFrame_of_inv hs hbusy
    rw [hnone] at hnext; cases hnext

end Sys2Proof.Proofs
